-- ==== Sys2Proof/Word.lean ====
section
/-! DEFINITION. The word types of the block (00_scope.md section 6): bytes, 16-bit timer values, phoneme codes, and the
index types of devices, chips and cards. -/

namespace Sys2Proof

/-- A byte: the only width a bus access moves (20_memory.md R44). -/
abbrev Byte := BitVec 8

/-- A 16-bit timer item (10_state.md R11). -/
abbrev Half := BitVec 16

/-- A 6-bit phoneme code, legacy or native (30_encoding.md R65, R69). -/
abbrev Phoneme := BitVec 6

/-- A device index `d` in `0..3` (00_scope.md R2). -/
abbrev DevIx := Fin 4

/-- A chip index `k` in `0..1` of one device (10_state.md R26). -/
abbrev ChipIx := Fin 2

/-- A card index in `0..1` (00_scope.md R2). -/
abbrev CardIx := Fin 2

end Sys2Proof
end

