-- ==== Sys2Proof/Machine/Bits.lean ====
section
/-! DEFINITION. Bit masks and the byte order of the two-byte timer items (20_memory.md R43). -/

namespace Sys2Proof.Machine

/-- The byte with bit `i` set and no other. -/
def bitMask (i : Nat) : Byte := 1#8 <<< i

/-- Bits 7:0 of a timer item. -/
def lowByte (w : Half) : Byte := w.setWidth 8

/-- Bits 15:8 of a timer item. -/
def highByte (w : Half) : Byte := (w >>> 8).setWidth 8

/-- The timer item with high byte `hi` and low byte `lo`. -/
def joinBytes (hi lo : Byte) : Half := hi ++ lo

/-- A timer item with bits 7:0 replaced: `w[7:0] <- v`. -/
def withLow (w : Half) (v : Byte) : Half := joinBytes (highByte w) v

/-- A timer item with bits 15:8 replaced: `w[15:8] <- v`. -/
def withHigh (w : Half) (v : Byte) : Half := joinBytes v (lowByte w)

end Sys2Proof.Machine
end

