-- ==== Sys2Proof/Machine/Literals.lean ====
section
/-! DEFINITION. The literals of the spec, each a named constant (00_scope.md R6, 93_implementation_defined.md section 3). -/

namespace Sys2Proof.Machine

/-- `T1_BIT`: the timer1 flag and enable (10_state.md R14, R15). -/
def t1Bit : Nat := 6

/-- `T2_BIT`: the timer2 flag and enable (10_state.md R14). -/
def t2Bit : Nat := 5

/-- The summary bit of IFR (10_state.md R14). -/
def summaryBit : Nat := 7

/-- The seven cause bits of IFR and the seven enables of IER (60_exceptions.md R230). -/
def causeMask : Byte := 0x7F#8

/-- `RUNMODE_BIT` of ACR: 1 free-running, 0 one-shot (10_state.md R17). -/
def runModeBit : Nat := 6

/-- `CTL_BIT` of control/articulation/amplitude (30_encoding.md R66). -/
def ctlBit : Nat := 7

/-- `VOTRAX_PCR` (42_psg_decoder.md R160). -/
def votraxPcr : Byte := 0xB0#8

/-- `VOTRAX_DDRB`: all output (42_psg_decoder.md R160). -/
def votraxDdrb : Byte := 0xFF#8

/-- `PHASOR_CS_LO`: the lower of the two adjacent chip-select bits (42_psg_decoder.md R162). -/
def phasorCsLo : Nat := 3

/-- The largest port-A value that latches a register index (42_psg_decoder.md R167). -/
def latchLimit : Byte := 0x0F#8

/-- What a read of IER returns (40_pia_registers.md R134). -/
def ierReadValue : Byte := 0x80#8

/-- `TICK_MAX` (41_timer_engine.md R142). -/
def tickMax : Nat := 0xFFFF

/-- `SPEECH_OFFSET` (30_encoding.md R70). -/
def speechOffset : Nat := 0x40

/-- `PIA_B_OFFSET` (30_encoding.md R70). -/
def piaBOffset : Nat := 0x80

/-- The divisor of `FALLBACK_PERIOD` (41_timer_engine.md R145). -/
def fallbackDivisor : Nat := 60

end Sys2Proof.Machine
end

