-- ==== Sys2Proof/Config.lean ====
section
/-! DEFINITION. What one block fixes: the parameters of 00_scope.md R6 that have no value (opaque constants, so that
nothing proved rests on a value) and the type of the four that have a default and may be overridden. -/

namespace Sys2Proof

/-- The parameters that 92_eei_decisions.md lists with a default (00_scope.md R6). They stand in `State.params`, which no
step changes, so that a statement about every state holds for every value of them (log entry 5). -/
structure Params where
  /-- `PERIPH_BIT`, `0..4`, default 1: the position of the peripheral flag (10_state.md R14). -/
  periphBit : Fin 5
  /-- `PORT_DDR_MASK`, default true: a port write is masked by the data direction (40_pia_registers.md R100). -/
  portDdrMask : Bool
  /-- `RELATCH_CLEARS_PIN`, default true (43_speech.md R186). -/
  relatchClearsPin : Bool
  /-- `PHASOR_ZERO_SUPPRESS_ALWAYS`, default false (43_speech.md R180). -/
  phasorZeroSuppressAlways : Bool
deriving DecidableEq, Repr

/-- The values of the table of 00_scope.md R6. -/
def Params.default : Params where
  periphBit := 1
  portDdrMask := true
  relatchClearsPin := true
  phasorZeroSuppressAlways := false

namespace Config

/-- The 62 entries of the Votrax table that the spec does not give (44_votrax.md R200); the two it gives are put over
this function in `votraxTable` (44_votrax.md R201). OPEN. -/
opaque votraxEntry : Phoneme → Phoneme

/-- `HOST_CLOCK_HZ` (41_timer_engine.md R145). OPEN. -/
opaque hostClockHz : Nat

/-- `PSG_INDEX(d, k)` before the spec's one constraint, injectivity, is put on it in `psgIndex` (00_scope.md R6). OPEN. -/
opaque psgNumber : DevIx → ChipIx → Nat

/-- `PH_SEL_FIRST_BIT` (30_encoding.md R71). OPEN. -/
opaque phSelFirst : Fin 8

/-- `PH_SEL_SECOND_BIT` before the constraint that it is distinct from the first (92_eei_decisions.md). OPEN. -/
opaque phSelSecond : Fin 8

/-- The free value of log entry 12: the device a completion goes to when a phoneme is active and no device owns it, a
state only a snapshot restore can bring (43_speech.md R191, 45_system_ops.md R212). -/
opaque freeOwner : Nat → DevIx

end Config

end Sys2Proof
end

