-- ==== Sys2Proof/Machine/Block.lean ====
section
/-! DEFINITION. The state items of 10_state.md section 1, as plain data: one `Device` per PIA, and the `Block` of four
devices and the globals. A snapshot is a `Block` (45_system_ops.md R211). -/

namespace Sys2Proof.Machine

/-- The items of one device (10_state.md R10 to R20, R22, R26), in the order of the spec's table. -/
structure Device where
  orb : Byte
  ora : Byte
  ddrb : Byte
  ddra : Byte
  t1c : Half
  t1l : Half
  t2c : Half
  t2l : Half
  sr : Byte
  acr : Byte
  pcr : Byte
  ifr : Byte
  ier : Byte
  curReg : BitVec 4
  t2Armed : Bool
  spDurPhon : Byte
  spInflect : Byte
  spRateInf : Byte
  spCtrl : Byte
  spFilt : Byte
  spCur : Byte
  /-- `PsgReg[d][k][r]`: the shadows of the two chips of the device (10_state.md R26). -/
  psg : Vector (Vector Byte 16) 2
deriving DecidableEq, Repr

/-- The whole state the spec gives the block (10_state.md section 1). -/
structure Block where
  devs : Vector Device 4
  timerOwner : Option DevIx
  timerPeriod : Half
  phasorEnable : Bool
  phasorMode : Bool
  speechLine : Bool
  activePhoneme : Option Phoneme
  speechOwner : Option DevIx
  viaVotrax : Bool
deriving DecidableEq, Repr

/-- A PSG chip after its reset: sixteen registers at 0x00 (42_psg_decoder.md R164). -/
def zeroChip : Vector Byte 16 := Vector.replicate 16 0#8

/-- A device at its reset values (10_state.md R32). -/
def Device.zero : Device where
  orb := 0#8
  ora := 0#8
  ddrb := 0#8
  ddra := 0#8
  t1c := 0#16
  t1l := 0#16
  t2c := 0#16
  t2l := 0#16
  sr := 0#8
  acr := 0#8
  pcr := 0#8
  ifr := 0#8
  ier := 0#8
  curReg := 0#4
  t2Armed := false
  spDurPhon := 0#8
  spInflect := 0#8
  spRateInf := 0#8
  spCtrl := 0#8
  spFilt := 0#8
  spCur := 0#8
  psg := Vector.replicate 2 zeroChip

/-- The block at its reset values with the Phasor configuration `e`, `m` (10_state.md R32). -/
def Block.zero (e m : Bool) : Block where
  devs := Vector.replicate 4 Device.zero
  timerOwner := none
  timerPeriod := 0#16
  phasorEnable := e
  phasorMode := m
  speechLine := false
  activePhoneme := none
  speechOwner := none
  viaVotrax := false

/-- The items of device `d`. -/
def Block.dev (b : Block) (d : DevIx) : Device := b.devs[d.val]

/-- The block with the items of device `d` replaced. -/
def Block.setDev (b : Block) (d : DevIx) (x : Device) : Block := { b with devs := b.devs.set d.val x }

/-- The block with the items of every device changed by `f`. -/
def Block.mapDevs (b : Block) (f : Device → Device) : Block :=
  { b with devs := #v[f (b.dev 0), f (b.dev 1), f (b.dev 2), f (b.dev 3)] }

/-- `PsgReg[d][k][r]` of a device's items (10_state.md R26). -/
def Device.psgReg (x : Device) (k : ChipIx) (r : BitVec 4) : Byte := (x.psg[k.val])[r.toNat]'r.isLt

/-- A device's items with `PsgReg[k][r]` replaced. -/
def Device.setPsgReg (x : Device) (k : ChipIx) (r : BitVec 4) (v : Byte) : Device :=
  { x with psg := x.psg.set k.val ((x.psg[k.val]).set r.toNat v r.isLt) }

/-- A device's items with chip `k` reset (42_psg_decoder.md R164). -/
def Device.resetChip (x : Device) (k : ChipIx) : Device := { x with psg := x.psg.set k.val zeroChip }

/-- A device is an A instance when its index is even (00_scope.md R2). -/
def isA (d : DevIx) : Bool := d.val % 2 == 0

/-- The types of 10_state.md that the fields' Lean types do not already say (45_system_ops.md R212): a timer owner is an
A instance, and bit 7 of every IER is 0. -/
def Block.typeOk (b : Block) : Bool :=
  b.timerOwner.all isA && decide (∀ d : DevIx, (b.dev d).ier.getLsbD 7 = false)

end Sys2Proof.Machine
end

