-- ==== Sys2Proof/Syntax.lean ====
section
/-! DEFINITION. The operations of the block: one constructor per row of spec/opcode_table.json, and the tokens in which
operations are issued (30_encoding.md R60, R72, R74, R75). -/

namespace Sys2Proof

open Sys2Proof.Machine (Block)

/-- The direction of a window access, with the byte of a write (45_system_ops.md R213, R214). -/
inductive Access where
  | read
  | write (v : Byte)
deriving DecidableEq, Repr

/-- One operation. `d` is a device, `v` a data byte (30_encoding.md R60). -/
inductive Instr where
  -- PIA register writes, registers 0x00 to 0x0F (40_pia_registers.md R102 to R117)
  | wOrb (d : DevIx) (v : Byte)
  | wOra (d : DevIx) (v : Byte)
  | wDdrb (d : DevIx) (v : Byte)
  | wDdra (d : DevIx) (v : Byte)
  | wT1cl (d : DevIx) (v : Byte)
  | wT1ch (d : DevIx) (v : Byte)
  | wT1ll (d : DevIx) (v : Byte)
  | wT1lh (d : DevIx) (v : Byte)
  | wT2l (d : DevIx) (v : Byte)
  | wT2h (d : DevIx) (v : Byte)
  | wSr (d : DevIx) (v : Byte)
  | wAcr (d : DevIx) (v : Byte)
  | wPcr (d : DevIx) (v : Byte)
  | wIfr (d : DevIx) (v : Byte)
  | wIer (d : DevIx) (v : Byte)
  | wOran (d : DevIx) (v : Byte)
  -- PIA register reads (R120 to R135)
  | rOrb (d : DevIx)
  | rOra (d : DevIx)
  | rDdrb (d : DevIx)
  | rDdra (d : DevIx)
  | rT1cl (d : DevIx)
  | rT1ch (d : DevIx)
  | rT1ll (d : DevIx)
  | rT1lh (d : DevIx)
  | rT2l (d : DevIx)
  | rT2h (d : DevIx)
  | rSr (d : DevIx)
  | rAcr (d : DevIx)
  | rPcr (d : DevIx)
  | rIfr (d : DevIx)
  | rIer (d : DevIx)
  | rOran (d : DevIx)
  -- speech register writes and reads (43_speech.md R180 to R185)
  | swDurphon (d : DevIx) (v : Byte)
  | swInflect (d : DevIx) (v : Byte)
  | swRateinf (d : DevIx) (v : Byte)
  | swCtrl (d : DevIx) (v : Byte)
  | swFilt (d : DevIx) (v : Byte)
  | srDurphon (d : DevIx)
  | srInflect (d : DevIx)
  | srRateinf (d : DevIx)
  | srCtrl (d : DevIx)
  | srFilt (d : DevIx)
  -- events (30_encoding.md R72)
  | tick (n : Nat)
  | done
  | reset
  | config (e m : Bool)
  | attach (e m : Bool)
  | detach
  | snapsave
  | snaprestore (S : Block)
  | busr (c off : Byte)
  | busw (c off v : Byte)
  -- PSG functions of chip (d, k) (R64); `lo` is {BDIR, BC1}, which a reset does not look at (42_psg_decoder.md R163)
  | psgReset (lo : BitVec 2) (d : DevIx) (k : ChipIx)
  | psgInactive (d : DevIx) (k : ChipIx)
  | psgRead (d : DevIx) (k : ChipIx)
  | psgWrite (d : DevIx) (k : ChipIx)
  | psgLatch (d : DevIx) (k : ChipIx)
  -- the ranges of card `c`'s window in the classic layout (30_encoding.md R70)
  | winPiaA (c : CardIx) (reg : BitVec 4) (a : Access)
  | winSpeech03 (c : CardIx) (reg : BitVec 2) (a : Access)
  | winSpeech4 (c : CardIx) (a : Access)
  | winPiaB (c : CardIx) (reg : BitVec 4) (a : Access)
deriving DecidableEq, Repr

/-- The items of the list of issued operations (log entry 1). A `byte` is a byte of the script encoding of
30_encoding.md R75, or the R72 selector of SNAPSAVE or SNAPRESTORE: R75 and R211 give these two no byte encoding, and
issuing them by a selector byte is the model's choice (DESIGN CHOICE, safe; log entry 21). A `snapshot` is the operand of
SNAPRESTORE, which has no byte layout (45_system_ops.md R212). These two are all an agent issues. A `psgFn` and a `window`
are the two second-level decodes of the opcode table laid down by themselves: the low three bits of a control word with
the chip they are for (R64), and a window offset (R70). No agent issues these (R60, R73); they let each row of the table
run alone (log entry 9). -/
inductive Token where
  | byte (b : Byte)
  | snapshot (S : Block)
  | psgFn (cw : BitVec 3) (d : DevIx) (k : ChipIx)
  | window (c : CardIx) (off : Byte) (a : Access)
deriving DecidableEq, Repr

end Sys2Proof
end

