-- ==== Sys2Proof/Decode.lean ====
section
/-! DEFINITION. The decoder of issued operations and, after it, the encoder: selectors (30_encoding.md R60, R72), script
bytes (R75), reserved and illegal encodings (R73), and the two second-level decodes, the port-B control word (R64) and
the window offset (R70). -/

namespace Sys2Proof

open Sys2Proof.Machine (Block lowByte highByte)

/-- Why an issued operation is rejected. Each is a contract violation or a reserved encoding (30_encoding.md R73,
60_exceptions.md R241). -/
inductive DecodeError where
  /-- There is no token to decode. -/
  | nothingIssued
  /-- A snapshot stands where a selector byte is expected (30_encoding.md R75). -/
  | strayOperand
  /-- An operand byte, or the snapshot of SNAPRESTORE, is missing (R75). -/
  | missingOperand
  /-- Bit 7 of the selector byte is 1 (R60). -/
  | selectorTopBit
  /-- The selector has `unit == 0b10` and `rw == 1` (R73). -/
  | eventWithWrite
  /-- The event code is one of 0xA to 0xF (R72, R73). -/
  | reservedEvent
  /-- The selector has `unit == 0b11`, which no agent issues (R73). -/
  | psgFunctionIssued
  /-- The device index is above 3 (R73). -/
  | deviceOutOfRange
  /-- The speech register index is above 4 (R73). -/
  | speechRegisterOutOfRange
  /-- Bits 7:2 of the operand byte of CONFIG or ATTACH are not 0 (R75; log entry 14). -/
  | reservedConfigBits
  /-- The window offset is in no known range (R70, R73). -/
  | offsetInNoRange
deriving DecidableEq, Repr

/-- What a decoder answers: an operation with the tokens after it, or the reason it is rejected. -/
abbrev Decoded := Except DecodeError (Instr × List Token)

/-! ## Operations by register index -/

/-- The PIA write of register index `reg` (30_encoding.md R61). -/
def piaWriteInstr (reg : BitVec 4) (d : DevIx) (v : Byte) : Instr :=
  match reg.toNat with
  | 0 => .wOrb d v
  | 1 => .wOra d v
  | 2 => .wDdrb d v
  | 3 => .wDdra d v
  | 4 => .wT1cl d v
  | 5 => .wT1ch d v
  | 6 => .wT1ll d v
  | 7 => .wT1lh d v
  | 8 => .wT2l d v
  | 9 => .wT2h d v
  | 10 => .wSr d v
  | 11 => .wAcr d v
  | 12 => .wPcr d v
  | 13 => .wIfr d v
  | 14 => .wIer d v
  | _ => .wOran d v

/-- The PIA read of register index `reg` (30_encoding.md R61). -/
def piaReadInstr (reg : BitVec 4) (d : DevIx) : Instr :=
  match reg.toNat with
  | 0 => .rOrb d
  | 1 => .rOra d
  | 2 => .rDdrb d
  | 3 => .rDdra d
  | 4 => .rT1cl d
  | 5 => .rT1ch d
  | 6 => .rT1ll d
  | 7 => .rT1lh d
  | 8 => .rT2l d
  | 9 => .rT2h d
  | 10 => .rSr d
  | 11 => .rAcr d
  | 12 => .rPcr d
  | 13 => .rIfr d
  | 14 => .rIer d
  | _ => .rOran d

/-- The speech write of register index `reg`, if there is one (30_encoding.md R62). -/
def speechWriteInstr (reg : BitVec 4) (d : DevIx) (v : Byte) : Option Instr :=
  match reg.toNat with
  | 0 => some (.swDurphon d v)
  | 1 => some (.swInflect d v)
  | 2 => some (.swRateinf d v)
  | 3 => some (.swCtrl d v)
  | 4 => some (.swFilt d v)
  | _ => none

/-- The speech read of register index `reg`, if there is one (30_encoding.md R62). -/
def speechReadInstr (reg : BitVec 4) (d : DevIx) : Option Instr :=
  match reg.toNat with
  | 0 => some (.srDurphon d)
  | 1 => some (.srInflect d)
  | 2 => some (.srRateinf d)
  | 3 => some (.srCtrl d)
  | 4 => some (.srFilt d)
  | _ => none

/-- The PSG function the low three bits `{nRESET, BDIR, BC1}` of a control word select (30_encoding.md R64). -/
def psgInstr (cw : BitVec 3) (d : DevIx) (k : ChipIx) : Instr :=
  match cw.toNat with
  | 4 => .psgInactive d k
  | 5 => .psgRead d k
  | 6 => .psgWrite d k
  | 7 => .psgLatch d k
  | _ => .psgReset (cw.setWidth 2) d k

/-- The window range an offset falls into, by match and mask (30_encoding.md R70). -/
def windowInstr (c : CardIx) (off : Byte) (a : Access) : Option Instr :=
  if off &&& 0xF0#8 = 0x00#8 then some (.winPiaA c (off.setWidth 4) a)
  else if off &&& 0xFC#8 = 0x40#8 then some (.winSpeech03 c (off.setWidth 2) a)
  else if off = 0x44#8 then some (.winSpeech4 c a)
  else if off &&& 0xF0#8 = 0x80#8 then some (.winPiaB c (off.setWidth 4) a)
  else none

/-! ## Operand bytes (30_encoding.md R75) -/

/-- A device operand byte. -/
def decodeDevice (b : Byte) : Except DecodeError DevIx :=
  if h : b.toNat < 4 then .ok ⟨b.toNat, h⟩ else .error .deviceOutOfRange

/-- The operands `d` of a register read. -/
def decodeD (mk : DevIx → Instr) : List Token → Decoded
  | .byte d :: rest => (decodeDevice d).map fun d => (mk d, rest)
  | _ => .error .missingOperand

/-- The operands `d`, `v` of a register write. -/
def decodeDV (mk : DevIx → Byte → Instr) : List Token → Decoded
  | .byte d :: .byte v :: rest => (decodeDevice d).map fun d => (mk d v, rest)
  | _ => .error .missingOperand

/-- The operand byte `{0b000000, m, e}` of CONFIG and ATTACH. -/
def decodeEM (mk : Bool → Bool → Instr) : List Token → Decoded
  | .byte b :: rest =>
    if b.toNat < 4 then .ok (mk (b.getLsbD 0) (b.getLsbD 1), rest) else .error .reservedConfigBits
  | _ => .error .missingOperand

/-- The two operand bytes of TICK, the low one first. -/
def decodeTick : List Token → Decoded
  | .byte lo :: .byte hi :: rest => .ok (.tick (lo.toNat + 256 * hi.toNat), rest)
  | _ => .error .missingOperand

/-- The operands `c`, `off` of BUSR. -/
def decodeBusr : List Token → Decoded
  | .byte c :: .byte off :: rest => .ok (.busr c off, rest)
  | _ => .error .missingOperand

/-- The operands `c`, `off`, `v` of BUSW. -/
def decodeBusw : List Token → Decoded
  | .byte c :: .byte off :: .byte v :: rest => .ok (.busw c off v, rest)
  | _ => .error .missingOperand

/-- The snapshot operand of SNAPRESTORE, which has no byte layout (45_system_ops.md R212); that it stands after the
selector byte as one token is the model's choice (DESIGN CHOICE, safe; log entry 21). -/
def decodeSnapshot : List Token → Decoded
  | .snapshot S :: rest => .ok (.snaprestore S, rest)
  | _ => .error .missingOperand

/-! ## Operations -/

/-- The event of code `code` (30_encoding.md R72). SNAPSAVE (code 6) is issued by its selector byte alone, SNAPRESTORE
(code 7) by its selector byte and a snapshot token: R75 and 45_system_ops.md R211 give them no byte encoding (DESIGN
CHOICE, safe; log entry 21). -/
def decodeEvent (code : BitVec 4) (rest : List Token) : Decoded :=
  match code.toNat with
  | 0 => decodeTick rest
  | 1 => .ok (.done, rest)
  | 2 => .ok (.reset, rest)
  | 3 => decodeEM .config rest
  | 4 => decodeEM .attach rest
  | 5 => .ok (.detach, rest)
  | 6 => .ok (.snapsave, rest)
  | 7 => decodeSnapshot rest
  | 8 => decodeBusr rest
  | 9 => decodeBusw rest
  | _ => .error .reservedEvent

/-- A PIA register access (30_encoding.md R60, R61). -/
def decodePia (rw : Bool) (reg : BitVec 4) (rest : List Token) : Decoded :=
  if rw then decodeDV (piaWriteInstr reg) rest else decodeD (piaReadInstr reg) rest

/-- A speech register access; register indices 0x5 to 0xF are illegal (30_encoding.md R60, R62, R73). -/
def decodeSpeech (rw : Bool) (reg : BitVec 4) (rest : List Token) : Decoded :=
  if reg.toNat ≤ 4 then
    if rw then decodeDV (fun d v => (speechWriteInstr reg d v).getD (.swFilt d v)) rest
    else decodeD (fun d => (speechReadInstr reg d).getD (.srFilt d)) rest
  else .error .speechRegisterOutOfRange

/-- An operation whose first byte is the selector `sel`, `sel[6:5]` the unit, `sel[4]` the direction and `sel[3:0]` the
register index or event code (30_encoding.md R60). -/
def decodeSelector (sel : Byte) (rest : List Token) : Decoded :=
  if sel.getLsbD 7 then .error .selectorTopBit
  else
    match (sel >>> 5).toNat with
    | 0 => decodePia (sel.getLsbD 4) (sel.setWidth 4) rest
    | 1 => decodeSpeech (sel.getLsbD 4) (sel.setWidth 4) rest
    | 2 => if sel.getLsbD 4 then .error .eventWithWrite else decodeEvent (sel.setWidth 4) rest
    | _ => .error .psgFunctionIssued

/-- The next operation of a list of issued tokens, with the tokens after it. -/
def decode : List Token → Decoded
  | [] => .error .nothingIssued
  | .byte sel :: rest => decodeSelector sel rest
  | .snapshot _ :: _ => .error .strayOperand
  | .psgFn cw d k :: rest => .ok (psgInstr cw d k, rest)
  | .window c off a :: rest =>
    match windowInstr c off a with
    | some i => .ok (i, rest)
    | none => .error .offsetInNoRange

/-! ## The encoder -/

/-- The operand byte of a device (30_encoding.md R75). -/
def devByte (d : DevIx) : Byte := BitVec.ofNat 8 d.val

/-- The operand byte `{0b000000, m, e}` (30_encoding.md R75). -/
def configByte (e m : Bool) : Byte := BitVec.ofNat 8 (e.toNat + 2 * m.toNat)

/-- A PIA or speech write: selector, device, data byte (30_encoding.md R75). -/
def encodeDV (sel : Byte) (d : DevIx) (v : Byte) : List Token := [.byte sel, .byte (devByte d), .byte v]

/-- A PIA or speech read: selector, device (30_encoding.md R75). -/
def encodeD (sel : Byte) (d : DevIx) : List Token := [.byte sel, .byte (devByte d)]

/-- The tokens of an operation (30_encoding.md R60, R64, R70, R72, R75). Those of SNAPSAVE and SNAPRESTORE are log entry
21's choice, those of the five PSG functions and the four window ranges log entry 9's. -/
def encode : Instr → List Token
  | .wOrb d v => encodeDV 0x10#8 d v
  | .wOra d v => encodeDV 0x11#8 d v
  | .wDdrb d v => encodeDV 0x12#8 d v
  | .wDdra d v => encodeDV 0x13#8 d v
  | .wT1cl d v => encodeDV 0x14#8 d v
  | .wT1ch d v => encodeDV 0x15#8 d v
  | .wT1ll d v => encodeDV 0x16#8 d v
  | .wT1lh d v => encodeDV 0x17#8 d v
  | .wT2l d v => encodeDV 0x18#8 d v
  | .wT2h d v => encodeDV 0x19#8 d v
  | .wSr d v => encodeDV 0x1A#8 d v
  | .wAcr d v => encodeDV 0x1B#8 d v
  | .wPcr d v => encodeDV 0x1C#8 d v
  | .wIfr d v => encodeDV 0x1D#8 d v
  | .wIer d v => encodeDV 0x1E#8 d v
  | .wOran d v => encodeDV 0x1F#8 d v
  | .rOrb d => encodeD 0x00#8 d
  | .rOra d => encodeD 0x01#8 d
  | .rDdrb d => encodeD 0x02#8 d
  | .rDdra d => encodeD 0x03#8 d
  | .rT1cl d => encodeD 0x04#8 d
  | .rT1ch d => encodeD 0x05#8 d
  | .rT1ll d => encodeD 0x06#8 d
  | .rT1lh d => encodeD 0x07#8 d
  | .rT2l d => encodeD 0x08#8 d
  | .rT2h d => encodeD 0x09#8 d
  | .rSr d => encodeD 0x0A#8 d
  | .rAcr d => encodeD 0x0B#8 d
  | .rPcr d => encodeD 0x0C#8 d
  | .rIfr d => encodeD 0x0D#8 d
  | .rIer d => encodeD 0x0E#8 d
  | .rOran d => encodeD 0x0F#8 d
  | .swDurphon d v => encodeDV 0x30#8 d v
  | .swInflect d v => encodeDV 0x31#8 d v
  | .swRateinf d v => encodeDV 0x32#8 d v
  | .swCtrl d v => encodeDV 0x33#8 d v
  | .swFilt d v => encodeDV 0x34#8 d v
  | .srDurphon d => encodeD 0x20#8 d
  | .srInflect d => encodeD 0x21#8 d
  | .srRateinf d => encodeD 0x22#8 d
  | .srCtrl d => encodeD 0x23#8 d
  | .srFilt d => encodeD 0x24#8 d
  | .tick n => [.byte 0x40#8, .byte (lowByte (BitVec.ofNat 16 n)), .byte (highByte (BitVec.ofNat 16 n))]
  | .done => [.byte 0x41#8]
  | .reset => [.byte 0x42#8]
  | .config e m => [.byte 0x43#8, .byte (configByte e m)]
  | .attach e m => [.byte 0x44#8, .byte (configByte e m)]
  | .detach => [.byte 0x45#8]
  | .snapsave => [.byte 0x46#8]
  | .snaprestore S => [.byte 0x47#8, .snapshot S]
  | .busr c off => [.byte 0x48#8, .byte c, .byte off]
  | .busw c off v => [.byte 0x49#8, .byte c, .byte off, .byte v]
  | .psgReset lo d k => [.psgFn (0#1 ++ lo) d k]
  | .psgInactive d k => [.psgFn 4#3 d k]
  | .psgRead d k => [.psgFn 5#3 d k]
  | .psgWrite d k => [.psgFn 6#3 d k]
  | .psgLatch d k => [.psgFn 7#3 d k]
  | .winPiaA c reg a => [.window c (0x0#4 ++ reg) a]
  | .winSpeech03 c reg a => [.window c (0b010000#6 ++ reg) a]
  | .winSpeech4 c a => [.window c 0x44#8 a]
  | .winPiaB c reg a => [.window c (0x8#4 ++ reg) a]

/-! ## Words of the opcode table -/

/-- `n` bytes of `w`, the least significant first. -/
def bytesOf : Nat → Nat → List Token
  | 0, _ => []
  | n + 1, w => .byte (BitVec.ofNat 8 w) :: bytesOf n (w / 256)

/-- The tokens of an operation whose table bits are `w`, every operand zero (log entry 9). A byte with bit 7 clear is a
selector: one of the PSGFN format (0x70 to 0x77) is a control word laid down by itself for chip `(0, 0)`, SNAPRESTORE's
operand is the all-zero snapshot, and every other selector is followed by zero bytes up to the longest operation, which
is BUSW with four. A byte with bit 7 set is no selector (30_encoding.md R60) and is a window offset: a read of card 0. -/
def tableTokens (nbits w : Nat) : List Token :=
  let b : Byte := BitVec.ofNat 8 w
  if b.getLsbD 7 then [.window 0 b .read]
  else if b &&& 0x78#8 = 0x70#8 then [.psgFn (b.setWidth 3) 0 0]
  else if b = 0x47#8 then [.byte b, .snapshot (Block.zero false false)]
  else bytesOf (max 4 (nbits / 8)) w

/-- The operation the decoder reads from an instruction whose bits are `w`. -/
def decodeTableWord (nbits w : Nat) : Option Instr :=
  match decode (tableTokens nbits w) with
  | .ok (i, _) => some i
  | .error _ => none

end Sys2Proof
end

