-- ==== Sys2Proof/Machine/State.lean ====
section
/-! DEFINITION. The state of the machine, the reasons it can stop, its outputs, and the state after reset. -/

namespace Sys2Proof.Machine

/-- The two host interrupt sources (00_scope.md R5). -/
inductive IrqSource where
  | pia
  | speech
deriving DecidableEq, Repr

/-- An output event (00_scope.md R5). A chip is named by the collaborator's index `PSG_INDEX(d, k)`. -/
inductive Event where
  | assertHostIrq (source : IrqSource)
  | deassertHostIrq (source : IrqSource)
  | soundGeneratorWrite (chip : Nat) (register : BitVec 4) (value : Byte)
  | soundGeneratorReset (chip : Nat)
  | playPhoneme (code : Phoneme)
deriving DecidableEq, Repr

/-- What an operation returns to the agent that issued it (log entry 3). -/
inductive Result where
  /-- The byte of a register read (40_pia_registers.md R118). -/
  | byte (b : Byte)
  /-- The snapshot of SNAPSAVE (45_system_ops.md R211). -/
  | snapshot (S : Block)
deriving DecidableEq, Repr

/-- The synchronous exceptions of the block: none (60_exceptions.md R240). No operation raises one; that is safe, since a
fault that no step answers lets nothing be proved. -/
inductive Fault where
deriving DecidableEq, Repr

/-- Why the machine gives an operation no step: a contract violation (60_exceptions.md R241), safe in each case, because
nothing can be proved of a run that contains it. -/
inductive Refusal where
  /-- Raised by an arm of `exec` whose instruction has no meaning yet. Safe. -/
  | notModelled (mnemonic : String)
  /-- Raised by the step where the issued tokens are no operation (30_encoding.md R73). Safe. -/
  | badEncoding (e : DecodeError)
  /-- Raised by every operation but ATTACH on a detached block (45_system_ops.md R216). Safe. -/
  | detached
  /-- Raised by TICK with a count above 0xFFFF (41_timer_engine.md R142). Safe. -/
  | tickCountOutOfRange
  /-- Raised by BUSR and BUSW with a card above 1 (45_system_ops.md R213, R214). Safe. -/
  | noSuchCard
  /-- Raised by BUSR and BUSW in the classic layout with an offset in no known range (30_encoding.md R70). Safe. -/
  | offsetInNoRange
  /-- Raised by SNAPRESTORE of a snapshot that does not type-check (45_system_ops.md R212). Safe. -/
  | snapshotIllTyped
deriving DecidableEq, Repr

/-- The state. `blk` is the whole state the spec gives the block; the other fields are the model's own. -/
structure State where
  /-- The state items of 10_state.md section 1. -/
  blk : Block
  /-- Whether the block exists (45_system_ops.md R215, R216). While it does not, `blk` is read by nothing (log entry 8). -/
  attached : Bool
  /-- The parameters with a default (00_scope.md R6); no step changes them (log entry 5). -/
  params : Params
  /-- How many free values have been used (log entry 12). -/
  freeCount : Nat
  /-- The operations issued and not yet performed, in the one total order of 20_memory.md R48 (log entry 1). -/
  input : List Token
  /-- What the last operation returned (log entry 3). -/
  result : Option Result
  /-- The output events, the oldest first (00_scope.md R5; log entry 4). -/
  trace : List Event
deriving DecidableEq, Repr

/-- The machine right after reset: every item of the block at the value of 10_state.md R32. The Phasor configuration,
which the spec leaves to the attach, is 0, 0 (log entry 7). -/
def State.reset : State where
  blk := Block.zero false false
  attached := true
  params := Params.default
  freeCount := 0
  input := []
  result := none
  trace := []

end Sys2Proof.Machine
end

