-- ==== Sys2Proof/Machine/Derived.lean ====
section
/-! DEFINITION. The derived values of 10_state.md R28: functions of the state, not state. -/

namespace Sys2Proof.Machine

/-- `Armed(d)` (10_state.md R28); `Idle(d)` is its negation. -/
def Block.armed (b : Block) (d : DevIx) : Bool := b.timerOwner == some d

/-- `PiaIrqLevel`: the OR of the four summary bits (10_state.md R28). -/
def Block.piaIrqLevel (b : Block) : Bool :=
  (b.dev 0).ifr.getLsbD summaryBit || (b.dev 1).ifr.getLsbD summaryBit ||
    (b.dev 2).ifr.getLsbD summaryBit || (b.dev 3).ifr.getLsbD summaryBit

/-- `SpeechIrqLevel` (10_state.md R28, 60_exceptions.md R233). -/
def Block.speechIrqLevel (b : Block) : Bool := b.speechLine

/-- `FALLBACK_PERIOD` (41_timer_engine.md R145). -/
def fallbackPeriod : Nat := Config.hostClockHz / fallbackDivisor

/-- `UpdatePeriod` (10_state.md R28, 41_timer_engine.md R145). -/
def Block.updatePeriod (b : Block) : Nat :=
  match b.timerOwner with
  | none => fallbackPeriod
  | some _ => b.timerPeriod.toNat

/-- `Pending1(d)`, the "timer1" boolean of a snapshot (10_state.md R28). -/
def Block.pending1 (b : Block) (d : DevIx) : Bool := b.armed d

/-- `Pending2(d)`, the "timer2" boolean of a snapshot (10_state.md R28). -/
def Block.pending2 (b : Block) (d : DevIx) : Bool := (b.dev d).t2Armed

/-- `PendingS(d)`, the "speech" boolean of a snapshot (10_state.md R28). -/
def Block.pendingS (b : Block) (d : DevIx) : Bool := (b.dev d).spCur.getLsbD 0

/-- Phasor native mode (10_state.md R23). -/
def Block.nativeMode (b : Block) : Bool := b.phasorEnable && b.phasorMode

end Sys2Proof.Machine
end

