-- ==== Sys2Proof/Machine/Ops.lean ====
section
/-! DEFINITION. The operations every meaning is made of: reading and replacing a device's items, emitting an output event,
returning a result, and what an operation does on a detached block. The block takes no exception and returns from none
(60_exceptions.md R240, R242), so there is no exception entry here; what it has instead is the interrupt aggregator of
Flags.lean. -/

namespace Sys2Proof.Machine

/-- What a step answers. -/
abbrev Answer := Host.Outcome State Fault Refusal

/-- The items of device `d`. -/
def State.dev (s : State) (d : DevIx) : Device := s.blk.dev d

/-- The items of device `d` changed by `f`; no other device's (10_state.md R10). -/
def State.modDev (s : State) (d : DevIx) (f : Device → Device) : State :=
  { s with blk := s.blk.setDev d (f (s.dev d)) }

/-- `emit E`: append an output event to the trace (00_scope.md R5). -/
def State.emit (s : State) (e : Event) : State := { s with trace := s.trace ++ [e] }

/-- The state after an operation that returned `r`. -/
def State.returns (s : State) (r : Option Result) : State := { s with result := r }

/-- An operation of an attached block; on a detached one it is refused (45_system_ops.md R216). -/
def whenAttached (s : State) (k : State → Answer) : Answer :=
  if s.attached then k s else .refused .detached

/-- An operation that returns no value (40_pia_registers.md R118). -/
def performs (f : State → State) (s : State) : Answer :=
  whenAttached s fun s => .next ((f s).returns none)

/-- An operation that returns one byte (40_pia_registers.md R118). -/
def answers (f : State → State × Byte) (s : State) : Answer :=
  whenAttached s fun s => .next ((f s).1.returns (some (.byte (f s).2)))

end Sys2Proof.Machine
end

