-- ==== Sys2Proof/Machine/Operands.lean ====
section
/-! DEFINITION. The decoded fields of data bytes and the open parameters under the spec's constraints: the port value
(40_pia_registers.md R100), the control word (30_encoding.md R63, R64), the chip select (42_psg_decoder.md R162), the
duration/phoneme and control bytes (30_encoding.md R65, R66), the Votrax table (44_votrax.md R200, R201) and the chip
numbering (00_scope.md R6). -/

namespace Sys2Proof.Machine

/-- `PortVal(v, ddr)` (40_pia_registers.md R100). -/
def portVal (p : Params) (v ddr : Byte) : Byte := if p.portDdrMask then v &&& ddr else v

/-- The mask `1 << PERIPH_BIT` (10_state.md R14). -/
def periphMask (p : Params) : Byte := bitMask p.periphBit.val

/-- The five functions of a control word (30_encoding.md R64). -/
inductive PsgFn where
  | reset
  | inactive
  | read
  | write
  | latch
deriving DecidableEq, Repr

/-- The function a control word selects: reset first, whatever the other two bits are (42_psg_decoder.md R163). -/
def psgFnOf (cw : Byte) : PsgFn :=
  if !cw.getLsbD 2 then .reset
  else
    match cw.getLsbD 1, cw.getLsbD 0 with
    | false, false => .inactive
    | false, true => .read
    | true, false => .write
    | true, true => .latch

/-- `ChipSelect(cw)`: bit `k` set selects chip `(d, k)` (42_psg_decoder.md R162). -/
def chipSelect (native : Bool) (cw : Byte) : BitVec 2 :=
  if native then (~~~(cw >>> phasorCsLo)).setWidth 2 else 0b01#2

/-- Whether chip `(d, k)` is one that a control word can select: the first chip in every mode, the second in Phasor native
mode only (10_state.md R26, 42_psg_decoder.md R162). -/
def chipReached (native : Bool) (k : ChipIx) : Bool := native || k.val == 0

/-- Whether a port-B write of a device with these items is in speech-data mode (42_psg_decoder.md R160). -/
def Device.speechDataMode (x : Device) : Bool := x.ddrb == votraxDdrb && x.pcr == votraxPcr

/-- The phoneme of a duration/phoneme byte, `v[5:0]` (30_encoding.md R65); also the legacy code of a byte handed to the
Votrax translator (R69). -/
def phonemeOf (v : Byte) : Phoneme := v.setWidth 6

/-- Whether `PSG_INDEX` as left open meets the spec's constraint, injectivity (92_eei_decisions.md). -/
def psgNumberInjective : Bool :=
  decide (∀ d d' : DevIx, ∀ k k' : ChipIx,
    Config.psgNumber d k = Config.psgNumber d' k' → d = d' ∧ k = k')

/-- `PSG_INDEX(d, k)`: any injective numbering of the eight chips. Where the open function is injective it is that
function; the other branch only keeps the numbering injective where it is not, which the spec excludes (log entry 6). -/
def psgIndex (d : DevIx) (k : ChipIx) : Nat :=
  if psgNumberInjective then Config.psgNumber d k else 2 * d.val + k.val

/-- `PH_SEL_FIRST_BIT` (30_encoding.md R71). -/
def phSelFirstBit : Fin 8 := Config.phSelFirst

/-- `PH_SEL_SECOND_BIT`: any bit but the first one (30_encoding.md R71, 92_eei_decisions.md; log entry 6). -/
def phSelSecondBit : Fin 8 :=
  if Config.phSelSecond = Config.phSelFirst then Config.phSelFirst + 1 else Config.phSelSecond

/-- `VOTRAX_TABLE`: any table with the two entries of 44_votrax.md R201. -/
def votraxTable (code : Phoneme) : Phoneme :=
  if code = 0x03#6 then 0x00#6
  else if code = 0x1D#6 then 0x25#6
  else Config.votraxEntry code

end Sys2Proof.Machine
end

