-- ==== Sys2Proof/Machine/Flags.lean ====
section
/-! DEFINITION. The interrupt aggregator (60_exceptions.md R230) and the two operations that change cause bits
(40_pia_registers.md R101). -/

namespace Sys2Proof.Machine

/-- A device's items with the summary bit set if and only if an enabled cause bit is set (60_exceptions.md R230). -/
def Device.summarise (x : Device) : Device :=
  { x with ifr :=
      if x.ifr &&& x.ier &&& causeMask ≠ 0#8 then x.ifr ||| bitMask summaryBit else x.ifr &&& causeMask }

/-- The event that tells the host the level of the PIA source (60_exceptions.md R230). -/
def piaIrqEvent (level : Bool) : Event := if level then .assertHostIrq .pia else .deassertHostIrq .pia

/-- The event that tells the host the level of the speech source (45_system_ops.md R212). -/
def speechIrqEvent (level : Bool) : Event := if level then .assertHostIrq .speech else .deassertHostIrq .speech

/-- The block with all four summary bits recomputed (60_exceptions.md R230). -/
def Block.summarise (b : Block) : Block := b.mapDevs Device.summarise

/-- `Recompute()` (60_exceptions.md R230). -/
def recompute (s : State) : State :=
  { s with blk := s.blk.summarise }.emit (piaIrqEvent s.blk.summarise.piaIrqLevel)

/-- `ClearFlags(d, m)` (40_pia_registers.md R101). -/
def clearFlags (d : DevIx) (m : Byte) (s : State) : State :=
  recompute (s.modDev d fun x => { x with ifr := x.ifr &&& ~~~(m &&& causeMask) })

/-- `SetFlags(d, m)` (40_pia_registers.md R101). -/
def setFlags (d : DevIx) (m : Byte) (s : State) : State :=
  recompute (s.modDev d fun x => { x with ifr := x.ifr ||| (m &&& causeMask) })

end Sys2Proof.Machine
end

