-- ==== Sys2Proof/Machine/Psg.lean ====
section
/-! DEFINITION. SoundGeneratorDecoder (42_psg_decoder.md): the decode of a port-B control word, and the meanings of the
five PSG functions. -/

namespace Sys2Proof.Machine

/-- `PsgResetChip(d, k)` (42_psg_decoder.md R164). -/
def psgResetChip (d : DevIx) (k : ChipIx) (s : State) : State :=
  (s.modDev d fun x => x.resetChip k).emit (.soundGeneratorReset (psgIndex d k))

/-- `PSG.INACTIVE` and `PSG.READ`: no state changes and no event is emitted (42_psg_decoder.md R165). -/
def psgNothing (s : State) : State := s

/-- `PsgWrite(d, k)` (42_psg_decoder.md R166). -/
def psgWriteChip (d : DevIx) (k : ChipIx) (s : State) : State :=
  (s.modDev d fun x => x.setPsgReg k x.curReg x.ora).emit
    (.soundGeneratorWrite (psgIndex d k) (s.dev d).curReg (s.dev d).ora)

/-- `PsgLatch(d)` (42_psg_decoder.md R167). -/
def psgLatchReg (d : DevIx) (s : State) : State :=
  if (s.dev d).ora.toNat ≤ latchLimit.toNat then s.modDev d fun x => { x with curReg := x.ora.setWidth 4 } else s

/-- `PsgFunc(d, k, cw)` (42_psg_decoder.md R163). -/
def psgFunc (d : DevIx) (k : ChipIx) (cw : Byte) (s : State) : State :=
  match psgFnOf cw with
  | .reset => psgResetChip d k s
  | .inactive => psgNothing s
  | .read => psgNothing s
  | .write => psgWriteChip d k s
  | .latch => psgLatchReg d s

/-- `PsgDecode(d, cw)`: the first chip before the second (42_psg_decoder.md R161). -/
def psgDecode (d : DevIx) (cw : Byte) (s : State) : State :=
  let cs := chipSelect s.blk.nativeMode cw
  let first := if cs.getLsbD 0 then psgFunc d 0 cw s else s
  if cs.getLsbD 1 then psgFunc d 1 cw first else first

/-- A function that acts on device `d`, run alone: in speech-data mode the decoder is skipped, and nothing happens
(42_psg_decoder.md R160, 70_reset_and_hazards.md R270; for a function run alone this is the model's choice, log entry 9). -/
def inDecoder (d : DevIx) (f : State → State) (s : State) : State := if (s.dev d).speechDataMode then s else f s

/-- A function that acts on chip `k` of a device, run alone: a chip that no control word can select is not addressed, and
nothing happens (10_state.md R26; 42_psg_decoder.md R161, R162; for a function run alone this is the model's choice, log
entry 9). -/
def onReachedChip (k : ChipIx) (f : State → State) (s : State) : State :=
  if chipReached s.blk.nativeMode k then f s else s

/-- PSG.RESET (42_psg_decoder.md R164); the low two bits of the control word are not looked at. -/
def execPsgReset (_lo : BitVec 2) (d : DevIx) (k : ChipIx) (s : State) : Answer :=
  performs (inDecoder d (onReachedChip k (psgResetChip d k))) s

/-- PSG.INACTIVE (42_psg_decoder.md R165). -/
def execPsgInactive (_d : DevIx) (_k : ChipIx) (s : State) : Answer := performs psgNothing s

/-- PSG.READ (42_psg_decoder.md R165). -/
def execPsgRead (_d : DevIx) (_k : ChipIx) (s : State) : Answer := performs psgNothing s

/-- PSG.WRITE (42_psg_decoder.md R166). -/
def execPsgWrite (d : DevIx) (k : ChipIx) (s : State) : Answer :=
  performs (inDecoder d (onReachedChip k (psgWriteChip d k))) s

/-- PSG.LATCH: it acts on the index of the device and on no chip, so `k` has no effect (42_psg_decoder.md R167). -/
def execPsgLatch (d : DevIx) (_k : ChipIx) (s : State) : Answer := performs (inDecoder d (psgLatchReg d)) s

end Sys2Proof.Machine
end

