-- ==== Sys2Proof/Machine/Timer.lean ====
section
/-! DEFINITION. TimerEngine (41_timer_engine.md): arming, stopping, the tick, and the meaning of TICK. -/

namespace Sys2Proof.Machine

/-- `Arm(d)` (41_timer_engine.md R140). -/
def arm (d : DevIx) (s : State) : State :=
  if isA d && (s.dev d).ier.getLsbD t1Bit then
    { s with blk := { s.blk with timerOwner := some d, timerPeriod := (s.dev d).t1l } }
  else s

/-- `Stop(d)` (41_timer_engine.md R141). -/
def stop (d : DevIx) (s : State) : State :=
  if s.blk.timerOwner = some d then { s with blk := { s.blk with timerOwner := none } } else s

/-- `Tick1(d, n)`: timer 1 of device `d`, and whether its flag was set (41_timer_engine.md R143). -/
def tick1 (d : DevIx) (n : Half) (s : State) : State × Bool :=
  let old := (s.dev d).t1c
  let counted := s.modDev d fun x => { x with t1c := old - n }
  if n.toNat > old.toNat ∧ s.blk.timerOwner = some d then
    let flagged := counted.modDev d fun x => { x with ifr := x.ifr ||| bitMask t1Bit }
    if (s.dev d).acr.getLsbD runModeBit then
      (arm d (flagged.modDev d fun x => { x with t1c := x.t1l }), true)
    else (stop d flagged, true)
  else (counted, false)

/-- `Tick2(d, n)`: timer 2 of device `d`, and whether its flag was set (41_timer_engine.md R144). -/
def tick2 (d : DevIx) (n : Half) (s : State) : State × Bool :=
  let old := (s.dev d).t2c
  let counted := s.modDev d fun x => { x with t2c := old - n }
  if n.toNat > old.toNat ∧ (s.dev d).t2Armed then
    (counted.modDev d fun x => { x with ifr := x.ifr ||| bitMask t2Bit, t2Armed := false }, true)
  else (counted, false)

/-- Both timers of device `d`, after the devices before it (41_timer_engine.md R142). -/
def tickDevice (n : Half) (before : State × Bool) (d : DevIx) : State × Bool :=
  let first := tick1 d n before.1
  let second := tick2 d n first.1
  (second.1, before.2 || first.2 || second.2)

/-- The timers of all four devices, and whether any flag was set (41_timer_engine.md R142). -/
def tickAll (n : Half) (s : State) : State × Bool := [0, 1, 2, 3].foldl (tickDevice n) (s, false)

/-- `Tick(n)` for a count in range (41_timer_engine.md R142). -/
def tickBy (n : Half) (s : State) : State :=
  if (tickAll n s).2 then recompute (tickAll n s).1 else (tickAll n s).1

/-- TICK (41_timer_engine.md R142). -/
def execTick (n : Nat) (s : State) : Answer :=
  whenAttached s fun s =>
    if n > tickMax then .refused .tickCountOutOfRange
    else .next ((tickBy (BitVec.ofNat 16 n) s).returns none)

end Sys2Proof.Machine
end

