-- ==== Sys2Proof/Machine/Speech.lean ====
section
/-! DEFINITION. SpeechController (43_speech.md): the five registers, the mode latch, dispatch and completion, and the
meanings of the speech operations and of DONE. -/

namespace Sys2Proof.Machine

/-- `Play(d, code, via)` (43_speech.md R190). -/
def play (d : DevIx) (code : Phoneme) (via : Bool) (s : State) : State :=
  let s := s.emit (.playPhoneme code)
  { s with blk := { s.blk with activePhoneme := some code, speechOwner := some d, viaVotrax := via } }

/-- The level of the SPEECH source set, with the event that tells the host (43_speech.md R180, R191). -/
def setSpeechLine (level : Bool) (s : State) : State :=
  { s with blk := { s.blk with speechLine := level } }.emit (speechIrqEvent level)

/-- The first part of the write of duration/phoneme: the speech interrupt condition and the pin are cleared
(43_speech.md R180). -/
def clearSpeechCondition (d : DevIx) (s : State) : State :=
  let cleared := if s.blk.phasorEnable then setSpeechLine false s else clearFlags d (periphMask s.params) s
  cleared.modDev d fun x => { x with spCur := x.spCur &&& ~~~(bitMask 0) }

/-- Whether a phoneme written to duration/phoneme is suppressed (43_speech.md R180). -/
def suppressed (p : Phoneme) (s : State) : Bool :=
  s.blk.phasorEnable && p == 0#6 && (s.blk.activePhoneme.isSome || s.params.phasorZeroSuppressAlways)

/-- The write of duration/phoneme (43_speech.md R180). -/
def writeDurPhon (d : DevIx) (v : Byte) (s : State) : State :=
  let stored := (clearSpeechCondition d s).modDev d fun x => { x with spDurPhon := v }
  if suppressed (phonemeOf v) stored then stored else play d (phonemeOf v) false stored

/-- The write of inflection (43_speech.md R181). -/
def writeInflect (d : DevIx) (v : Byte) (s : State) : State := s.modDev d fun x => { x with spInflect := v }

/-- The write of rate/inflection (43_speech.md R182). -/
def writeRateInf (d : DevIx) (v : Byte) (s : State) : State := s.modDev d fun x => { x with spRateInf := v }

/-- `Relatch(d)` (43_speech.md R186). -/
def relatch (d : DevIx) (s : State) : State :=
  s.modDev d fun x =>
    { x with spCur :=
        if s.params.relatchClearsPin then x.spDurPhon &&& 0xC0#8
        else (x.spCur &&& 0x3F#8) ||| (x.spDurPhon &&& 0xC0#8) }

/-- The write of control/articulation/amplitude (43_speech.md R183). -/
def writeCtrl (d : DevIx) (v : Byte) (s : State) : State :=
  let latched := if (s.dev d).spCtrl.getLsbD ctlBit && !v.getLsbD ctlBit then relatch d s else s
  latched.modDev d fun x => { x with spCtrl := v }

/-- The write of filter-frequency (43_speech.md R184). -/
def writeFilt (d : DevIx) (v : Byte) (s : State) : State := s.modDev d fun x => { x with spFilt := v }

/-- The read of any speech register: `SpCur[d][0] << 7` (43_speech.md R185, 30_encoding.md R76). -/
def readSpeech (d : DevIx) (s : State) : State × Byte := (s, ((s.dev d).spCur &&& bitMask 0) <<< 7)

/-- `SpWrite(d, r, v)` for a register index `0..4` (30_encoding.md R62). -/
def spWrite (d : DevIx) (r : Fin 5) (v : Byte) : State → State :=
  match r with
  | 0 => writeDurPhon d v
  | 1 => writeInflect d v
  | 2 => writeRateInf d v
  | 3 => writeCtrl d v
  | 4 => writeFilt d v

/-- `SpRead(d, r)` for a register index `0..4`, which does not matter (43_speech.md R185). -/
def spRead (d : DevIx) (_r : Fin 5) : State → State × Byte := readSpeech d

/-- The device a completion goes to: the speech owner. Where there is none, which only a restored snapshot can bring, the
device is a free value, and the count of free values advances (log entry 12). -/
def completionDevice (s : State) : DevIx × State :=
  match s.blk.speechOwner with
  | some d => (d, s)
  | none => (Config.freeOwner s.freeCount, { s with freeCount := s.freeCount + 1 })

/-- The completion of a phoneme that came through the Votrax translator (43_speech.md R191). -/
def completeVotrax (d : DevIx) (s : State) : State :=
  setFlags d (periphMask s.params) { s with blk := { s.blk with viaVotrax := false } }

/-- The completion of a phoneme written to duration/phoneme: the latched mode decides (43_speech.md R191). -/
def completeNative (d : DevIx) (s : State) : State :=
  if (s.dev d).spCur &&& 0xC0#8 = 0#8 then s
  else
    let pinned := s.modDev d fun x => { x with spCur := x.spCur ||| bitMask 0 }
    if pinned.blk.phasorEnable then setSpeechLine true pinned else setFlags d (periphMask s.params) pinned

/-- `PhonemeDone()` (43_speech.md R191). -/
def phonemeDone (s : State) : State :=
  match s.blk.activePhoneme with
  | none => s
  | some _ =>
    let (d, s) := completionDevice { s with blk := { s.blk with activePhoneme := none } }
    if s.blk.viaVotrax then completeVotrax d s else completeNative d s

/-- SW.DURPHON (43_speech.md R180). -/
def execSwDurphon (d : DevIx) (v : Byte) (s : State) : Answer := performs (writeDurPhon d v) s

/-- SW.INFLECT (43_speech.md R181). -/
def execSwInflect (d : DevIx) (v : Byte) (s : State) : Answer := performs (writeInflect d v) s

/-- SW.RATEINF (43_speech.md R182). -/
def execSwRateinf (d : DevIx) (v : Byte) (s : State) : Answer := performs (writeRateInf d v) s

/-- SW.CTRL (43_speech.md R183). -/
def execSwCtrl (d : DevIx) (v : Byte) (s : State) : Answer := performs (writeCtrl d v) s

/-- SW.FILT (43_speech.md R184). -/
def execSwFilt (d : DevIx) (v : Byte) (s : State) : Answer := performs (writeFilt d v) s

/-- SR.DURPHON (43_speech.md R185). -/
def execSrDurphon (d : DevIx) (s : State) : Answer := answers (spRead d 0) s

/-- SR.INFLECT (43_speech.md R185). -/
def execSrInflect (d : DevIx) (s : State) : Answer := answers (spRead d 1) s

/-- SR.RATEINF (43_speech.md R185). -/
def execSrRateinf (d : DevIx) (s : State) : Answer := answers (spRead d 2) s

/-- SR.CTRL (43_speech.md R185). -/
def execSrCtrl (d : DevIx) (s : State) : Answer := answers (spRead d 3) s

/-- SR.FILT (43_speech.md R185). -/
def execSrFilt (d : DevIx) (s : State) : Answer := answers (spRead d 4) s

/-- DONE (43_speech.md R191). -/
def execDone (s : State) : Answer := performs phonemeDone s

end Sys2Proof.Machine
end

