-- ==== Sys2Proof/Machine/Votrax.lean ====
section
/-! DEFINITION. VotraxTranslator (44_votrax.md): the dispatch of a port-B byte in speech-data mode. -/

namespace Sys2Proof.Machine

/-- `VotraxWrite(d, v)` (44_votrax.md R202). -/
def votraxWrite (d : DevIx) (v : Byte) (s : State) : State :=
  play d (votraxTable (phonemeOf v)) true (clearFlags d (periphMask s.params) s)

end Sys2Proof.Machine
end

