-- ==== Sys2Proof/Machine/Pia.lean ====
section
/-! DEFINITION. RegisterFile (40_pia_registers.md): the sixteen writes and sixteen reads of a PIA, the two operations by
register index, and the meanings of the 32 PIA operations. -/

namespace Sys2Proof.Machine

/-! ## Writes -/

/-- The write of port B (40_pia_registers.md R102). -/
def writeOrb (d : DevIx) (v : Byte) (s : State) : State :=
  let pv := portVal s.params v (s.dev d).ddrb
  let stored := s.modDev d fun x => { x with orb := pv }
  if (s.dev d).speechDataMode then votraxWrite d pv stored else psgDecode d pv stored

/-- The write of port A with handshake (40_pia_registers.md R103). -/
def writeOra (d : DevIx) (v : Byte) (s : State) : State :=
  s.modDev d fun x => { x with ora := portVal s.params v x.ddra }

/-- The write of data direction B (40_pia_registers.md R104). -/
def writeDdrb (d : DevIx) (v : Byte) (s : State) : State :=
  s.modDev d fun x => { x with ddrb := v }

/-- The write of data direction A (40_pia_registers.md R105). -/
def writeDdra (d : DevIx) (v : Byte) (s : State) : State :=
  s.modDev d fun x => { x with ddra := v }

/-- The write of timer 1 counter-low (40_pia_registers.md R106). -/
def writeT1cl (d : DevIx) (v : Byte) (s : State) : State :=
  s.modDev d fun x => { x with t1l := withLow x.t1l v }

/-- The write of timer 1 counter-high (40_pia_registers.md R107). -/
def writeT1ch (d : DevIx) (v : Byte) (s : State) : State :=
  arm d (clearFlags d (bitMask t1Bit)
    (s.modDev d fun x => { x with t1l := withHigh x.t1l v, t1c := withHigh x.t1l v }))

/-- The write of timer 1 latch-low (40_pia_registers.md R108). -/
def writeT1ll (d : DevIx) (v : Byte) (s : State) : State :=
  s.modDev d fun x => { x with t1l := withLow x.t1l v }

/-- The write of timer 1 latch-high (40_pia_registers.md R109). -/
def writeT1lh (d : DevIx) (v : Byte) (s : State) : State :=
  clearFlags d (bitMask t1Bit) (s.modDev d fun x => { x with t1l := withHigh x.t1l v })

/-- The write of timer 2 low (40_pia_registers.md R110). -/
def writeT2l (d : DevIx) (v : Byte) (s : State) : State :=
  s.modDev d fun x => { x with t2l := withLow x.t2l v }

/-- The write of timer 2 high (40_pia_registers.md R111). -/
def writeT2h (d : DevIx) (v : Byte) (s : State) : State :=
  (clearFlags d (bitMask t2Bit)
    (s.modDev d fun x => { x with t2l := withHigh x.t2l v, t2c := withHigh x.t2l v })).modDev d
      fun x => { x with t2Armed := true }

/-- The write of serial shift: nothing (40_pia_registers.md R112). -/
def writeSr (_d : DevIx) (_v : Byte) (s : State) : State :=
  s

/-- The write of auxiliary control (40_pia_registers.md R113). -/
def writeAcr (d : DevIx) (v : Byte) (s : State) : State :=
  s.modDev d fun x => { x with acr := v }

/-- The write of peripheral control (40_pia_registers.md R114). -/
def writePcr (d : DevIx) (v : Byte) (s : State) : State :=
  s.modDev d fun x => { x with pcr := v }

/-- The write of interrupt flags (40_pia_registers.md R115). -/
def writeIfr (d : DevIx) (v : Byte) (s : State) : State :=
  clearFlags d v s

/-- The write of interrupt enable (30_encoding.md R67) (40_pia_registers.md R116). -/
def writeIer (d : DevIx) (v : Byte) (s : State) : State :=
  if v.getLsbD 7 then
    arm d (recompute (s.modDev d fun x => { x with ier := x.ier ||| (v &&& causeMask) }))
  else
    let removed := recompute (s.modDev d fun x => { x with ier := x.ier &&& ~~~(v &&& causeMask) &&& causeMask })
    if (removed.dev d).ier.getLsbD t1Bit then removed else stop d removed

/-- The write of port A without handshake (40_pia_registers.md R117). -/
def writeOran (d : DevIx) (v : Byte) (s : State) : State :=
  s.modDev d fun x => { x with ora := portVal s.params v x.ddra }

/-- `RegWrite(d, r, v)` (30_encoding.md R61). -/
def regWrite (d : DevIx) (r : BitVec 4) (v : Byte) : State → State :=
  match r.toNat with
  | 0 => writeOrb d v
  | 1 => writeOra d v
  | 2 => writeDdrb d v
  | 3 => writeDdra d v
  | 4 => writeT1cl d v
  | 5 => writeT1ch d v
  | 6 => writeT1ll d v
  | 7 => writeT1lh d v
  | 8 => writeT2l d v
  | 9 => writeT2h d v
  | 10 => writeSr d v
  | 11 => writeAcr d v
  | 12 => writePcr d v
  | 13 => writeIfr d v
  | 14 => writeIer d v
  | _ => writeOran d v

/-! ## Reads -/

/-- The read of ORB (40_pia_registers.md R120). -/
def readOrb (d : DevIx) (s : State) : State × Byte := (s, (s.dev d).orb)

/-- The read of ORA (40_pia_registers.md R121). -/
def readOra (d : DevIx) (s : State) : State × Byte := (s, (s.dev d).ora)

/-- The read of DDRB (40_pia_registers.md R122). -/
def readDdrb (d : DevIx) (s : State) : State × Byte := (s, (s.dev d).ddrb)

/-- The read of DDRA (40_pia_registers.md R123). -/
def readDdra (d : DevIx) (s : State) : State × Byte := (s, (s.dev d).ddra)

/-- The read of T1CL (40_pia_registers.md R124). -/
def readT1cl (d : DevIx) (s : State) : State × Byte :=
  (clearFlags d (bitMask t1Bit) s, lowByte (s.dev d).t1c)

/-- The read of T1CH (40_pia_registers.md R125). -/
def readT1ch (d : DevIx) (s : State) : State × Byte := (s, highByte (s.dev d).t1c)

/-- The read of T1LL (40_pia_registers.md R126). -/
def readT1ll (d : DevIx) (s : State) : State × Byte := (s, lowByte (s.dev d).t1l)

/-- The read of T1LH (40_pia_registers.md R127). -/
def readT1lh (d : DevIx) (s : State) : State × Byte := (s, highByte (s.dev d).t1l)

/-- The read of T2L (40_pia_registers.md R128). -/
def readT2l (d : DevIx) (s : State) : State × Byte :=
  (clearFlags d (bitMask t2Bit) s, lowByte (s.dev d).t2c)

/-- The read of T2H (40_pia_registers.md R129). -/
def readT2h (d : DevIx) (s : State) : State × Byte := (s, highByte (s.dev d).t2c)

/-- The read of SR (40_pia_registers.md R130). -/
def readSr (_d : DevIx) (s : State) : State × Byte := (s, 0#8)

/-- The read of ACR (40_pia_registers.md R131). -/
def readAcr (d : DevIx) (s : State) : State × Byte := (s, (s.dev d).acr)

/-- The read of PCR (40_pia_registers.md R132). -/
def readPcr (d : DevIx) (s : State) : State × Byte := (s, (s.dev d).pcr)

/-- The read of IFR (40_pia_registers.md R133). -/
def readIfr (d : DevIx) (s : State) : State × Byte := (s, (s.dev d).ifr)

/-- The read of IER (40_pia_registers.md R134). -/
def readIer (_d : DevIx) (s : State) : State × Byte := (s, ierReadValue)

/-- The read of ORAN (40_pia_registers.md R135). -/
def readOran (d : DevIx) (s : State) : State × Byte := (s, (s.dev d).ora)

/-- `RegRead(d, r)` (30_encoding.md R61). -/
def regRead (d : DevIx) (r : BitVec 4) : State → State × Byte :=
  match r.toNat with
  | 0 => readOrb d
  | 1 => readOra d
  | 2 => readDdrb d
  | 3 => readDdra d
  | 4 => readT1cl d
  | 5 => readT1ch d
  | 6 => readT1ll d
  | 7 => readT1lh d
  | 8 => readT2l d
  | 9 => readT2h d
  | 10 => readSr d
  | 11 => readAcr d
  | 12 => readPcr d
  | 13 => readIfr d
  | 14 => readIer d
  | _ => readOran d

/-! ## Meanings -/

/-- W.ORB (40_pia_registers.md R102). -/
def execWOrb (d : DevIx) (v : Byte) (s : State) : Answer := performs (writeOrb d v) s

/-- W.ORA (40_pia_registers.md R103). -/
def execWOra (d : DevIx) (v : Byte) (s : State) : Answer := performs (writeOra d v) s

/-- W.DDRB (40_pia_registers.md R104). -/
def execWDdrb (d : DevIx) (v : Byte) (s : State) : Answer := performs (writeDdrb d v) s

/-- W.DDRA (40_pia_registers.md R105). -/
def execWDdra (d : DevIx) (v : Byte) (s : State) : Answer := performs (writeDdra d v) s

/-- W.T1CL (40_pia_registers.md R106). -/
def execWT1cl (d : DevIx) (v : Byte) (s : State) : Answer := performs (writeT1cl d v) s

/-- W.T1CH (40_pia_registers.md R107). -/
def execWT1ch (d : DevIx) (v : Byte) (s : State) : Answer := performs (writeT1ch d v) s

/-- W.T1LL (40_pia_registers.md R108). -/
def execWT1ll (d : DevIx) (v : Byte) (s : State) : Answer := performs (writeT1ll d v) s

/-- W.T1LH (40_pia_registers.md R109). -/
def execWT1lh (d : DevIx) (v : Byte) (s : State) : Answer := performs (writeT1lh d v) s

/-- W.T2L (40_pia_registers.md R110). -/
def execWT2l (d : DevIx) (v : Byte) (s : State) : Answer := performs (writeT2l d v) s

/-- W.T2H (40_pia_registers.md R111). -/
def execWT2h (d : DevIx) (v : Byte) (s : State) : Answer := performs (writeT2h d v) s

/-- W.SR (40_pia_registers.md R112). -/
def execWSr (d : DevIx) (v : Byte) (s : State) : Answer := performs (writeSr d v) s

/-- W.ACR (40_pia_registers.md R113). -/
def execWAcr (d : DevIx) (v : Byte) (s : State) : Answer := performs (writeAcr d v) s

/-- W.PCR (40_pia_registers.md R114). -/
def execWPcr (d : DevIx) (v : Byte) (s : State) : Answer := performs (writePcr d v) s

/-- W.IFR (40_pia_registers.md R115). -/
def execWIfr (d : DevIx) (v : Byte) (s : State) : Answer := performs (writeIfr d v) s

/-- W.IER (40_pia_registers.md R116). -/
def execWIer (d : DevIx) (v : Byte) (s : State) : Answer := performs (writeIer d v) s

/-- W.ORAN (40_pia_registers.md R117). -/
def execWOran (d : DevIx) (v : Byte) (s : State) : Answer := performs (writeOran d v) s

/-- R.ORB (40_pia_registers.md R120). -/
def execROrb (d : DevIx) (s : State) : Answer := answers (readOrb d) s

/-- R.ORA (40_pia_registers.md R121). -/
def execROra (d : DevIx) (s : State) : Answer := answers (readOra d) s

/-- R.DDRB (40_pia_registers.md R122). -/
def execRDdrb (d : DevIx) (s : State) : Answer := answers (readDdrb d) s

/-- R.DDRA (40_pia_registers.md R123). -/
def execRDdra (d : DevIx) (s : State) : Answer := answers (readDdra d) s

/-- R.T1CL (40_pia_registers.md R124). -/
def execRT1cl (d : DevIx) (s : State) : Answer := answers (readT1cl d) s

/-- R.T1CH (40_pia_registers.md R125). -/
def execRT1ch (d : DevIx) (s : State) : Answer := answers (readT1ch d) s

/-- R.T1LL (40_pia_registers.md R126). -/
def execRT1ll (d : DevIx) (s : State) : Answer := answers (readT1ll d) s

/-- R.T1LH (40_pia_registers.md R127). -/
def execRT1lh (d : DevIx) (s : State) : Answer := answers (readT1lh d) s

/-- R.T2L (40_pia_registers.md R128). -/
def execRT2l (d : DevIx) (s : State) : Answer := answers (readT2l d) s

/-- R.T2H (40_pia_registers.md R129). -/
def execRT2h (d : DevIx) (s : State) : Answer := answers (readT2h d) s

/-- R.SR (40_pia_registers.md R130). -/
def execRSr (d : DevIx) (s : State) : Answer := answers (readSr d) s

/-- R.ACR (40_pia_registers.md R131). -/
def execRAcr (d : DevIx) (s : State) : Answer := answers (readAcr d) s

/-- R.PCR (40_pia_registers.md R132). -/
def execRPcr (d : DevIx) (s : State) : Answer := answers (readPcr d) s

/-- R.IFR (40_pia_registers.md R133). -/
def execRIfr (d : DevIx) (s : State) : Answer := answers (readIfr d) s

/-- R.IER (40_pia_registers.md R134). -/
def execRIer (d : DevIx) (s : State) : Answer := answers (readIer d) s

/-- R.ORAN (40_pia_registers.md R135). -/
def execROran (d : DevIx) (s : State) : Answer := answers (readOran d) s

end Sys2Proof.Machine
end

