-- ==== Sys2Proof/Machine/System.lean ====
section
/-! DEFINITION. System operations (45_system_ops.md, 70_reset_and_hazards.md): configure, reset, attach, detach, snapshot
save and restore. -/

namespace Sys2Proof.Machine

/-- `Configure(e, m)` (45_system_ops.md R210). -/
def configure (e m : Bool) (s : State) : State :=
  { s with blk := { s.blk with phasorEnable := e, phasorMode := m } }

/-- The eight chips in the order in which a reset reaches them (70_reset_and_hazards.md R260). -/
def allChips : List (DevIx × ChipIx) := [(0, 0), (0, 1), (1, 0), (1, 1), (2, 0), (2, 1), (3, 0), (3, 1)]

/-- `Reset()` (70_reset_and_hazards.md R260). -/
def resetBlock (s : State) : State :=
  let cleared := { s with
    blk := Block.zero s.blk.phasorEnable s.blk.phasorMode
    trace := s.trace ++ allChips.map fun c => .soundGeneratorReset (psgIndex c.1 c.2) }
  (recompute cleared).emit (.deassertHostIrq .speech)

/-- `Attach(e, m)` (45_system_ops.md R215). -/
def attachBlock (e m : Bool) (s : State) : State :=
  (recompute { s with attached := true, blk := Block.zero e m }).emit (.deassertHostIrq .speech)

/-- `Detach()`: the state ceases to exist (45_system_ops.md R216; log entry 8). -/
def detachBlock (s : State) : State := { s with attached := false, blk := Block.zero false false }

/-- `SnapshotRestore(S)` of a snapshot that type-checks (45_system_ops.md R212). -/
def restoreBlock (S : Block) (s : State) : State :=
  (recompute { s with blk := S }).emit (speechIrqEvent S.speechLine)

/-- CONFIG (45_system_ops.md R210). -/
def execConfig (e m : Bool) (s : State) : Answer := performs (configure e m) s

/-- RESET (70_reset_and_hazards.md R260). -/
def execReset (s : State) : Answer := performs resetBlock s

/-- ATTACH, the one operation of a detached block (45_system_ops.md R215, R216). -/
def execAttach (e m : Bool) (s : State) : Answer := .next ((attachBlock e m s).returns none)

/-- DETACH (45_system_ops.md R216). -/
def execDetach (s : State) : Answer := performs detachBlock s

/-- SNAPSAVE: the whole state of the block is returned and not changed (45_system_ops.md R211). -/
def execSnapsave (s : State) : Answer :=
  whenAttached s fun s => .next (s.returns (some (.snapshot s.blk)))

/-- SNAPRESTORE (45_system_ops.md R212). -/
def execSnaprestore (S : Block) (s : State) : Answer :=
  whenAttached s fun s =>
    if S.typeOk then .next ((restoreBlock S s).returns none) else .refused .snapshotIllTyped

end Sys2Proof.Machine
end

