-- ==== Sys2Proof/Machine/Window.lean ====
section
/-! DEFINITION. CardAddressDecoder: the classic layout (30_encoding.md R70), the Phasor native layout (R71), and the
meanings of BUSR, BUSW (45_system_ops.md R213, R214) and of the four window ranges. -/

namespace Sys2Proof.Machine

/-- The A instance of card `c`, device `2c` (00_scope.md R2). -/
def cardA (c : CardIx) : DevIx := ⟨2 * c.val, by omega⟩

/-- The B instance of card `c`, device `2c + 1` (00_scope.md R2). -/
def cardB (c : CardIx) : DevIx := ⟨2 * c.val + 1, by omega⟩

/-- What a window offset reaches (30_encoding.md R70). -/
inductive Target where
  | pia (d : DevIx) (reg : BitVec 4)
  | speech (d : DevIx) (reg : Fin 5)
deriving DecidableEq, Repr

/-- The speech register behind an offset in `0x40..0x44` (30_encoding.md R70, R71). -/
def speechRegAt (off : Byte) : Option (Fin 5) :=
  if h : speechOffset ≤ off.toNat ∧ off.toNat - speechOffset < 5 then some ⟨off.toNat - speechOffset, h.2⟩ else none

/-- The classic layout decode (30_encoding.md R70). -/
def windowTarget (c : CardIx) (off : Byte) : Option Target :=
  if off.toNat ≤ 0x0F then some (.pia (cardA c) (off.setWidth 4))
  else
    match speechRegAt off with
    | some r => some (.speech (cardB c) r)
    | none =>
      if piaBOffset ≤ off.toNat ∧ off.toNat ≤ piaBOffset + 0x0F then some (.pia (cardB c) (off.setWidth 4)) else none

/-- The read of a target: a register read and nothing more (45_system_ops.md R213). -/
def readTarget : Target → State → State × Byte
  | .pia d reg => regRead d reg
  | .speech d reg => spRead d reg

/-- The write of a target: a register write and nothing more (45_system_ops.md R214). -/
def writeTarget (v : Byte) : Target → State → State
  | .pia d reg => regWrite d reg v
  | .speech d reg => spWrite d reg v

/-- A read that takes part in an access if `sel` is set, OR-ing its byte into `r` (30_encoding.md R71). -/
def readIf (sel : Bool) (f : State → State × Byte) (before : State × Byte) : State × Byte :=
  if sel then ((f before.1).1, before.2 ||| (f before.1).2) else before

/-- A write that takes part in an access if `sel` is set (30_encoding.md R71). -/
def writeIf (sel : Bool) (f : State → State) (s : State) : State := if sel then f s else s

/-- The Phasor native read with the select bits `selA`, `selB` of the offset (30_encoding.md R71). -/
def nativeRead (selA selB : Bool) (c : CardIx) (off : Byte) (s : State) : State × Byte :=
  let a := readIf selA (regRead (cardA c) (off.setWidth 4)) (s, 0#8)
  let b := readIf selB (regRead (cardB c) (off.setWidth 4)) a
  match speechRegAt off with
  | some r => readIf true (spRead (cardB c) r) b
  | none => b

/-- The Phasor native write with the select bits `selA`, `selB` of the offset (30_encoding.md R71). -/
def nativeWrite (selA selB : Bool) (c : CardIx) (off v : Byte) (s : State) : State :=
  let a := writeIf selA (regWrite (cardA c) (off.setWidth 4) v) s
  let b := writeIf selB (regWrite (cardB c) (off.setWidth 4) v) a
  match speechRegAt off with
  | some r => spWrite (cardB c) r v b
  | none => b

/-- `off[PH_SEL_FIRST_BIT]` (30_encoding.md R71). -/
def selectsA (off : Byte) : Bool := off.getLsbD phSelFirstBit.val

/-- `off[PH_SEL_SECOND_BIT]` (30_encoding.md R71). -/
def selectsB (off : Byte) : Bool := off.getLsbD phSelSecondBit.val

/-- The card an operand names; none above 1 (45_system_ops.md R213, R214). -/
def cardOf (c : Byte) : Option CardIx := if h : c.toNat < 2 then some ⟨c.toNat, h⟩ else none

/-- BUSR (45_system_ops.md R213). -/
def execBusr (c off : Byte) (s : State) : Answer :=
  whenAttached s fun s =>
    match cardOf c with
    | none => .refused .noSuchCard
    | some c =>
      if s.blk.nativeMode then answers (nativeRead (selectsA off) (selectsB off) c off) s
      else
        match windowTarget c off with
        | some t => answers (readTarget t) s
        | none => .refused .offsetInNoRange

/-- BUSW (45_system_ops.md R214). -/
def execBusw (c off v : Byte) (s : State) : Answer :=
  whenAttached s fun s =>
    match cardOf c with
    | none => .refused .noSuchCard
    | some c =>
      if s.blk.nativeMode then performs (nativeWrite (selectsA off) (selectsB off) c off v) s
      else
        match windowTarget c off with
        | some t => performs (writeTarget v t) s
        | none => .refused .offsetInNoRange

/-- A window access that has reached its target (30_encoding.md R70). -/
def accessTarget (t : Target) (a : Access) (s : State) : Answer :=
  match a with
  | .read => answers (readTarget t) s
  | .write v => performs (writeTarget v t) s

/-- WIN.PIA_A: PIA device `2c`, register `off[3:0]` (30_encoding.md R70; log entry 10). -/
def execWinPiaA (c : CardIx) (reg : BitVec 4) (a : Access) (s : State) : Answer :=
  accessTarget (.pia (cardA c) reg) a s

/-- WIN.SPEECH_0_3: speech registers 0 to 3 of device `2c + 1` (30_encoding.md R70; log entry 10). -/
def execWinSpeech03 (c : CardIx) (reg : BitVec 2) (a : Access) (s : State) : Answer :=
  accessTarget (.speech (cardB c) ⟨reg.toNat, by omega⟩) a s

/-- WIN.SPEECH_4: speech register 4 of device `2c + 1` (30_encoding.md R70; log entry 10). -/
def execWinSpeech4 (c : CardIx) (a : Access) (s : State) : Answer := accessTarget (.speech (cardB c) 4) a s

/-- WIN.PIA_B: PIA device `2c + 1`, register `off[3:0]` (30_encoding.md R70; log entry 10). -/
def execWinPiaB (c : CardIx) (reg : BitVec 4) (a : Access) (s : State) : Answer :=
  accessTarget (.pia (cardB c) reg) a s

end Sys2Proof.Machine
end

