-- ==== Sys2Proof/Machine/Dispatch.lean ====
section
/-! DEFINITION. The meaning of every operation: one arm per constructor of `Instr`, each one direct call. -/

namespace Sys2Proof.Machine

def exec (i : Instr) (s : State) : Host.Outcome State Fault Refusal :=
  match i with
  | .wOrb d v => Sys2Proof.Machine.execWOrb d v s
  | .wOra d v => Sys2Proof.Machine.execWOra d v s
  | .wDdrb d v => Sys2Proof.Machine.execWDdrb d v s
  | .wDdra d v => Sys2Proof.Machine.execWDdra d v s
  | .wT1cl d v => Sys2Proof.Machine.execWT1cl d v s
  | .wT1ch d v => Sys2Proof.Machine.execWT1ch d v s
  | .wT1ll d v => Sys2Proof.Machine.execWT1ll d v s
  | .wT1lh d v => Sys2Proof.Machine.execWT1lh d v s
  | .wT2l d v => Sys2Proof.Machine.execWT2l d v s
  | .wT2h d v => Sys2Proof.Machine.execWT2h d v s
  | .wSr d v => Sys2Proof.Machine.execWSr d v s
  | .wAcr d v => Sys2Proof.Machine.execWAcr d v s
  | .wPcr d v => Sys2Proof.Machine.execWPcr d v s
  | .wIfr d v => Sys2Proof.Machine.execWIfr d v s
  | .wIer d v => Sys2Proof.Machine.execWIer d v s
  | .wOran d v => Sys2Proof.Machine.execWOran d v s
  | .rOrb d => Sys2Proof.Machine.execROrb d s
  | .rOra d => Sys2Proof.Machine.execROra d s
  | .rDdrb d => Sys2Proof.Machine.execRDdrb d s
  | .rDdra d => Sys2Proof.Machine.execRDdra d s
  | .rT1cl d => Sys2Proof.Machine.execRT1cl d s
  | .rT1ch d => Sys2Proof.Machine.execRT1ch d s
  | .rT1ll d => Sys2Proof.Machine.execRT1ll d s
  | .rT1lh d => Sys2Proof.Machine.execRT1lh d s
  | .rT2l d => Sys2Proof.Machine.execRT2l d s
  | .rT2h d => Sys2Proof.Machine.execRT2h d s
  | .rSr d => Sys2Proof.Machine.execRSr d s
  | .rAcr d => Sys2Proof.Machine.execRAcr d s
  | .rPcr d => Sys2Proof.Machine.execRPcr d s
  | .rIfr d => Sys2Proof.Machine.execRIfr d s
  | .rIer d => Sys2Proof.Machine.execRIer d s
  | .rOran d => Sys2Proof.Machine.execROran d s
  | .swDurphon d v => Sys2Proof.Machine.execSwDurphon d v s
  | .swInflect d v => Sys2Proof.Machine.execSwInflect d v s
  | .swRateinf d v => Sys2Proof.Machine.execSwRateinf d v s
  | .swCtrl d v => Sys2Proof.Machine.execSwCtrl d v s
  | .swFilt d v => Sys2Proof.Machine.execSwFilt d v s
  | .srDurphon d => Sys2Proof.Machine.execSrDurphon d s
  | .srInflect d => Sys2Proof.Machine.execSrInflect d s
  | .srRateinf d => Sys2Proof.Machine.execSrRateinf d s
  | .srCtrl d => Sys2Proof.Machine.execSrCtrl d s
  | .srFilt d => Sys2Proof.Machine.execSrFilt d s
  | .tick n => Sys2Proof.Machine.execTick n s
  | .done => Sys2Proof.Machine.execDone s
  | .reset => Sys2Proof.Machine.execReset s
  | .config e m => Sys2Proof.Machine.execConfig e m s
  | .attach e m => Sys2Proof.Machine.execAttach e m s
  | .detach => Sys2Proof.Machine.execDetach s
  | .snapsave => Sys2Proof.Machine.execSnapsave s
  | .snaprestore S => Sys2Proof.Machine.execSnaprestore S s
  | .busr c off => Sys2Proof.Machine.execBusr c off s
  | .busw c off v => Sys2Proof.Machine.execBusw c off v s
  | .psgReset lo d k => Sys2Proof.Machine.execPsgReset lo d k s
  | .psgInactive d k => Sys2Proof.Machine.execPsgInactive d k s
  | .psgRead d k => Sys2Proof.Machine.execPsgRead d k s
  | .psgWrite d k => Sys2Proof.Machine.execPsgWrite d k s
  | .psgLatch d k => Sys2Proof.Machine.execPsgLatch d k s
  | .winPiaA c reg a => Sys2Proof.Machine.execWinPiaA c reg a s
  | .winSpeech03 c reg a => Sys2Proof.Machine.execWinSpeech03 c reg a s
  | .winSpeech4 c a => Sys2Proof.Machine.execWinSpeech4 c a s
  | .winPiaB c reg a => Sys2Proof.Machine.execWinPiaB c reg a s

end Sys2Proof.Machine
end

