-- ==== Sys2Proof/Machine/Fetch.lean ====
section
/-! DEFINITION. Taking the next issued operation off the input, and placing one there. The block fetches no instruction
(10_state.md R31): the agents issue operations, in one total order (20_memory.md R48; log entry 1). -/

namespace Sys2Proof.Machine

/-- What stands next in the input. -/
inductive Fetched where
  /-- No agent has issued an operation. -/
  | idle
  /-- The next tokens are no operation. -/
  | rejected (e : DecodeError)
  /-- The operation, and the state in which it runs: its tokens are gone from the input. -/
  | operation (i : Instr) (s : State)
deriving DecidableEq, Repr

/-- The next operation of the input. -/
def fetch (s : State) : Fetched :=
  match s.input with
  | [] => .idle
  | ts =>
    match decode ts with
    | .ok (i, rest) => .operation i { s with input := rest }
    | .error e => .rejected e

/-- The state with the operation of a table word placed as the next, and only, one issued. -/
def State.placeTableWord (s : State) (nbits w : Nat) : State := { s with input := tableTokens nbits w }

end Sys2Proof.Machine
end

