-- ==== Sys2Proof/Machine/Step.lean ====
section
/-! DEFINITION. One step: the next issued operation, performed whole (00_scope.md R4, 20_memory.md R48). -/

namespace Sys2Proof.Machine

/-- One step. With nothing issued the block waits and nothing changes: it has no step of its own (00_scope.md R3,
70_reset_and_hazards.md R261; log entry 2). -/
def step (s : State) : Host.Outcome State Fault Refusal :=
  match fetch s with
  | .idle => .next s
  | .rejected e => .refused (.badEncoding e)
  | .operation i s' => exec i s'

/-- The state with the operation of a table word placed where the next step takes its operation from (log entry 1). -/
def State.withFetchWord (s : State) (nbits w : Nat) : State := s.placeTableWord nbits w

end Sys2Proof.Machine
end

