-- ==== Sys2Proof/WellFormed.lean ====
section
/-! DEFINITION. Which operations have their operands in the declared domain (00_scope.md R4, 60_exceptions.md R241). The
types of `Instr` already exclude a device above 3 and a register above its range; what is left is checked here. -/

namespace Sys2Proof

open Sys2Proof.Machine (tickMax)

/-- The operands are in their declared domain: a tick count of 16 bits (41_timer_engine.md R142), one of the two cards
(45_system_ops.md R213, R214), a snapshot that type-checks (R212). Whether a window offset is in a known range depends on
the layout in force and is no matter of the operation alone (30_encoding.md R70, R71). -/
def Instr.wellFormed : Instr → Bool
  | .tick n => n ≤ tickMax
  | .busr c _ => c.toNat ≤ 1
  | .busw c _ _ => c.toNat ≤ 1
  | .snaprestore S => S.typeOk
  | .wOrb _ _ | .wOra _ _ | .wDdrb _ _ | .wDdra _ _ | .wT1cl _ _ | .wT1ch _ _ | .wT1ll _ _ | .wT1lh _ _ => true
  | .wT2l _ _ | .wT2h _ _ | .wSr _ _ | .wAcr _ _ | .wPcr _ _ | .wIfr _ _ | .wIer _ _ | .wOran _ _ => true
  | .rOrb _ | .rOra _ | .rDdrb _ | .rDdra _ | .rT1cl _ | .rT1ch _ | .rT1ll _ | .rT1lh _ => true
  | .rT2l _ | .rT2h _ | .rSr _ | .rAcr _ | .rPcr _ | .rIfr _ | .rIer _ | .rOran _ => true
  | .swDurphon _ _ | .swInflect _ _ | .swRateinf _ _ | .swCtrl _ _ | .swFilt _ _ => true
  | .srDurphon _ | .srInflect _ | .srRateinf _ | .srCtrl _ | .srFilt _ => true
  | .done | .reset | .config _ _ | .attach _ _ | .detach | .snapsave => true
  | .psgReset _ _ _ | .psgInactive _ _ | .psgRead _ _ | .psgWrite _ _ | .psgLatch _ _ => true
  | .winPiaA _ _ _ | .winSpeech03 _ _ _ | .winSpeech4 _ _ | .winPiaB _ _ _ => true

end Sys2Proof
end

