-- ==== Sys2Proof/Safety.lean ====
section
/-! DEFINITION. The terms in which the statements speak: the invariants of a good state, what "everything else is
unchanged" means here, the outputs whose number and order the spec fixes, and operations run one after another. -/

namespace Sys2Proof.Machine

/-! ## Invariants -/

/-- The summary bit is set exactly when an enabled cause bit is (10_state.md R16). -/
abbrev Device.SummaryOk (x : Device) : Prop := x.ifr.getLsbD 7 = true ↔ x.ifr &&& x.ier &&& 0x7F#8 ≠ 0#8

/-- Invariant SUMMARY (10_state.md R16). -/
abbrev State.Summary (s : State) : Prop := ∀ d, (s.dev d).SummaryOk

/-- The timer owner is an A instance whose timer 1 interrupt is enabled (41_timer_engine.md R146). -/
abbrev State.OwnerEnabled (s : State) : Prop :=
  ∀ d, s.blk.timerOwner = some d → d.val % 2 = 0 ∧ (s.dev d).ier.getLsbD 6 = true

/-- Bits 5:1 of every current-mode byte are 0 (10_state.md R20). -/
abbrev State.ModeByteOk (s : State) : Prop := ∀ d, (s.dev d).spCur &&& 0x3E#8 = 0#8

/-- An active phoneme has an owning device (43_speech.md R191). -/
abbrev State.PhonemeOwned (s : State) : Prop := s.blk.activePhoneme.isSome = true → s.blk.speechOwner.isSome = true

/-- The level the last assert or deassert event of a source in a trace told the host, if there was one. -/
def lastTold (source : IrqSource) (trace : List Event) : Option Bool :=
  trace.foldl
    (fun told e =>
      if e = .assertHostIrq source then some true else if e = .deassertHostIrq source then some false else told)
    none

/-- While the block exists, the last event of each source agrees with the level of that source (60_exceptions.md R232). -/
abbrev State.LinesTold (s : State) : Prop :=
  s.attached = true →
    (∀ l, lastTold .pia s.trace = some l → l = s.blk.piaIrqLevel) ∧
      (∀ l, lastTold .speech s.trace = some l → l = s.blk.speechIrqLevel)

/-- Every item of a device is at its reset value (10_state.md R32). -/
abbrev Device.AllZero (x : Device) : Prop :=
  x = { orb := 0#8, ora := 0#8, ddrb := 0#8, ddra := 0#8, t1c := 0#16, t1l := 0#16, t2c := 0#16, t2l := 0#16,
        sr := 0#8, acr := 0#8, pcr := 0#8, ifr := 0#8, ier := 0#8, curReg := 0#4, t2Armed := false,
        spDurPhon := 0#8, spInflect := 0#8, spRateInf := 0#8, spCtrl := 0#8, spFilt := 0#8, spCur := 0#8,
        psg := x.psg } ∧
    ∀ k r, x.psgReg k r = 0#8

/-- Every item of the block is at its reset value, the Phasor configuration being `e`, `m` (10_state.md R32). -/
abbrev Block.AtReset (b : Block) (e m : Bool) : Prop :=
  (∀ d, (b.dev d).AllZero) ∧ b.timerOwner = none ∧ b.timerPeriod = 0#16 ∧ b.phasorEnable = e ∧ b.phasorMode = m ∧
    b.speechLine = false ∧ b.activePhoneme = none ∧ b.speechOwner = none ∧ b.viaVotrax = false

/-- The types of 10_state.md (45_system_ops.md R212): an even timer owner, bit 7 of every IER 0. -/
abbrev Block.Typed (b : Block) : Prop :=
  (∀ d, b.timerOwner = some d → d.val % 2 = 0) ∧ ∀ d, (b.dev d).ier.getLsbD 7 = false

/-! ## What an operation leaves unchanged -/

/-- The three kinds of output event whose number and order are normative (00_scope.md R5). -/
def Event.normative : Event → Bool
  | .assertHostIrq _ => false
  | .deassertHostIrq _ => false
  | .soundGeneratorWrite _ _ _ => true
  | .soundGeneratorReset _ => true
  | .playPhoneme _ => true

/-- The output events whose number and order are normative (00_scope.md R5, 60_exceptions.md R232). -/
def State.outputs (s : State) : List Event := s.trace.filter Event.normative

/-- The timer owner and the timer period are unchanged. -/
abbrev TimerKept (s t : State) : Prop :=
  t.blk.timerOwner = s.blk.timerOwner ∧ t.blk.timerPeriod = s.blk.timerPeriod

/-- The Phasor configuration is unchanged. -/
abbrev PhasorKept (s t : State) : Prop :=
  t.blk.phasorEnable = s.blk.phasorEnable ∧ t.blk.phasorMode = s.blk.phasorMode

/-- The active phoneme, its owner and its origin are unchanged. -/
abbrev PhonemeKept (s t : State) : Prop :=
  t.blk.activePhoneme = s.blk.activePhoneme ∧ t.blk.speechOwner = s.blk.speechOwner ∧
    t.blk.viaVotrax = s.blk.viaVotrax

/-- Every global item of the block is unchanged (10_state.md section 1). -/
abbrev GlobalsKept (s t : State) : Prop :=
  TimerKept s t ∧ PhasorKept s t ∧ t.blk.speechLine = s.blk.speechLine ∧ PhonemeKept s t

/-- The model's own items that only the step itself may change are unchanged. -/
abbrev ModelKept (s t : State) : Prop :=
  t.attached = s.attached ∧ t.params = s.params ∧ t.freeCount = s.freeCount ∧ t.input = s.input

/-- Every item of every device but `d` is unchanged. -/
abbrev OthersKept (s t : State) (d : DevIx) : Prop := ∀ e, e ≠ d → t.dev e = s.dev e

/-- Device items that differ at most in the summary bit. -/
abbrev SameButSummary (x y : Device) : Prop := y = { x with ifr := y.ifr } ∧ y.ifr &&& 0x7F#8 = x.ifr &&& 0x7F#8

/-- Every item of every device but `d` is unchanged, but that the summary bits are recomputed. -/
abbrev OthersButSummary (s t : State) (d : DevIx) : Prop := ∀ e, e ≠ d → SameButSummary (s.dev e) (t.dev e)

/-- The operation changed the items of device `d` to `x` and nothing else, emitted nothing and returned `r`. -/
abbrev OnlyDevice (s t : State) (d : DevIx) (x : Device) (r : Option Result) : Prop :=
  t.dev d = x ∧ OthersKept s t d ∧ GlobalsKept s t ∧ ModelKept s t ∧ t.outputs = s.outputs ∧ t.result = r

/-- The operation changed nothing but what it returned, and emitted nothing. -/
abbrev NothingBut (s t : State) (r : Option Result) : Prop :=
  t.blk = s.blk ∧ ModelKept s t ∧ t.outputs = s.outputs ∧ t.result = r

/-- The operation completes, answers the byte `b` and changes nothing (40_pia_registers.md R118). -/
abbrev Reads (s : State) (i : Instr) (b : Byte) : Prop :=
  ∃ t, exec i s = .next t ∧ NothingBut s t (some (.byte b))

/-- The operation completes with a phoneme dispatched once: one event, the active phoneme, its owner and its origin
(43_speech.md R190). -/
abbrev Plays (s t : State) (d : DevIx) (code : Phoneme) (via : Bool) : Prop :=
  t.outputs = s.outputs ++ [.playPhoneme code] ∧ t.blk.activePhoneme = some code ∧ t.blk.speechOwner = some d ∧
    t.blk.viaVotrax = via

/-- Device `d` has the items `x` but for its IFR, the cause bits of which are `causes`; the other devices are unchanged but
for recomputed summary bits; every summary bit is right (40_pia_registers.md R101, 60_exceptions.md R230). -/
abbrev FlagsBecome (s t : State) (d : DevIx) (x : Device) (causes : Byte) : Prop :=
  t.dev d = { x with ifr := (t.dev d).ifr } ∧ (t.dev d).ifr &&& 0x7F#8 = causes ∧ OthersButSummary s t d ∧ t.Summary

/-! ## Stored bytes that nothing reads -/

/-- A device without the bytes that no operation but a snapshot looks at: the serial placeholder (10_state.md R12) and
the three plain speech registers (43_speech.md R181, R182, R184). -/
def Device.erasePlain (x : Device) : Device := { x with sr := 0#8, spInflect := 0#8, spRateInf := 0#8, spFilt := 0#8 }

/-- The state without those bytes of any device. -/
def State.erasePlain (s : State) : State := { s with blk := s.blk.mapDevs Device.erasePlain }

/-! ## Operations one after another -/

/-- The operations in order, each in the state the one before it left, answering as a write does (30_encoding.md R71). -/
def runWrites : List Instr → State → Answer
  | [], s => .next (s.returns none)
  | i :: is, s =>
    match exec i s with
    | .next t => runWrites is t
    | .fault e => .fault e
    | .refused r => .refused r

/-- The reads in order, each in the state the one before it left, answering the OR of `r` and their bytes
(30_encoding.md R71). -/
def runReads : List Instr → Byte → State → Answer
  | [], r, s => .next (s.returns (some (.byte r)))
  | i :: is, r, s =>
    match exec i s with
    | .next t =>
      match t.result with
      | some (.byte b) => runReads is (r ||| b) t
      | _ => runReads is r t
    | .fault e => .fault e
    | .refused r => .refused r

end Sys2Proof.Machine
end

