-- ==== Sys2Proof/Certificates/Slice0/Obligations.lean ====
section
/-! DEFINITION. The statements for the provers. Each docstring names the rule or section of spec/ it formalises; where a
rule carries a decision mark, the statement says what the spec decided, and the docstring names the decision. -/

open Sys2Proof Sys2Proof.Machine

/-! ## The step, the decoder and the encoder -/

/-- When the issued tokens decode to an operation, the step is that operation run with its tokens taken off the input
(20_memory.md R48; the input is the model's, log entry 1). -/
def Obligations.StepRunsDecodedOperation : Prop :=
  ∀ (s : State) (i : Instr) (rest : List Token),
    decode s.input = .ok (i, rest) → step s = exec i { s with input := rest }

/-- With nothing issued the block waits (00_scope.md R3, 70_reset_and_hazards.md R261; the model's choice, log entry 2);
tokens that are no operation are refused (30_encoding.md R73). -/
def Obligations.StepWithoutAnOperation : Prop :=
  (∀ s : State, s.input = [] → step s = .next s) ∧
    ∀ (s : State) (e : DecodeError), s.input ≠ [] → decode s.input = .error e → step s = .refused (.badEncoding e)

/-- Nine words decode to their operations. The seven of bytes are written out from 30_encoding.md R60, R62, R72, R75 and
95_test_vectors.md. The last two are tokens that the model itself added (log entry 9, DESIGN CHOICE; by R60 and R73 no
agent issues a PSG function): their fields are those of R64 and R70. -/
def Obligations.WordsDecodeAsWritten : Prop :=
  decode [.byte 0x1E#8, .byte 0x02#8, .byte 0xC0#8] = .ok (.wIer 2 0xC0#8, []) ∧
    decode [.byte 0x04#8, .byte 0x00#8] = .ok (.rT1cl 0, []) ∧
    decode [.byte 0x30#8, .byte 0x03#8, .byte 0xA1#8] = .ok (.swDurphon 3 0xA1#8, []) ∧
    decode [.byte 0x21#8, .byte 0x03#8] = .ok (.srInflect 3, []) ∧
    decode [.byte 0x40#8, .byte 0x11#8, .byte 0x02#8] = .ok (.tick 0x211, []) ∧
    decode [.byte 0x44#8, .byte 0x03#8] = .ok (.attach true true, []) ∧
    decode [.byte 0x49#8, .byte 0x00#8, .byte 0x8E#8, .byte 0x82#8] = .ok (.busw 0x00#8 0x8E#8 0x82#8, []) ∧
    decode [.psgFn 6#3 1 0] = .ok (.psgWrite 1 0, []) ∧
    decode [.window 1 0x44#8 .read] = .ok (.winSpeech4 1 .read, [])

/-- Decoding the encoding of an operation gives it back, whatever was issued after it (30_encoding.md R60, R64, R70, R72,
R75). The model's own choices among the encodings: the tokens of the five PSG functions and the four window ranges (log
entry 9; R73 rejects PSG function selectors), the snapshot token of SNAPRESTORE (log entry 1) and the selector bytes of
SNAPSAVE and SNAPRESTORE, to which R75 gives no byte encoding (log entry 21). -/
def Obligations.DecodeEncodeAgree : Prop :=
  ∀ (i : Instr) (rest : List Token), i.wellFormed = true → decode (encode i ++ rest) = .ok (i, rest)

/-- How many tokens an operation takes depends on its selector byte alone (30_encoding.md R75; for SNAPSAVE and
SNAPRESTORE, which R75 leaves out, this is the model's choice, log entry 21). -/
def Obligations.LengthDecidedByFirstByte : Prop :=
  ∀ (b : Byte) (r₁ r₂ t₁ t₂ : List Token) (i₁ i₂ : Instr),
    decode (.byte b :: r₁) = .ok (i₁, t₁) → decode (.byte b :: r₂) = .ok (i₂, t₂) →
      r₁.length + t₂.length = r₂.length + t₁.length

/-- Reserved and illegal selectors are rejected, and so is a register access whose device operand is above 3: whatever
follows the device byte, a read by that name, a write by that name once its data byte stands there (30_encoding.md R60,
R73). -/
def Obligations.ReservedEncodingsRejected : Prop :=
  (∀ (b : Byte) (rest : List Token),
      (0x25 ≤ b.toNat ∧ b.toNat ≤ 0x2F ∨ 0x35 ≤ b.toNat ∧ b.toNat ≤ 0x3F ∨ 0x4A ≤ b.toNat) →
        ∃ e, decode (.byte b :: rest) = .error e) ∧
    (∀ (b d : Byte) (rest : List Token),
      (b.toNat ≤ 0x24 ∨ 0x30 ≤ b.toNat ∧ b.toNat ≤ 0x34) → 4 ≤ d.toNat →
        ∃ e, decode (.byte b :: .byte d :: rest) = .error e) ∧
    (∀ (b d : Byte) (rest : List Token),
      (b.toNat ≤ 0x0F ∨ 0x20 ≤ b.toNat ∧ b.toNat ≤ 0x24) → 4 ≤ d.toNat →
        decode (.byte b :: .byte d :: rest) = .error .deviceOutOfRange) ∧
    ∀ (b d v : Byte) (rest : List Token),
      (0x10 ≤ b.toNat ∧ b.toNat ≤ 0x1F ∨ 0x30 ≤ b.toNat ∧ b.toNat ≤ 0x34) → 4 ≤ d.toNat →
        decode (.byte b :: .byte d :: .byte v :: rest) = .error .deviceOutOfRange

/-! ## Invariants -/

/-- Every step keeps invariant SUMMARY, from every state in which it holds (10_state.md R16). -/
def Obligations.SummaryKeptByEveryStep : Prop :=
  ∀ s t : State, s.Summary → step s = .next t → t.Summary

/-- Every step but a snapshot restore keeps the timer owner an A instance whose timer 1 interrupt is enabled
(41_timer_engine.md section 4, derived there). -/
def Obligations.OwnerEnabledKept : Prop :=
  ∀ s t : State, s.OwnerEnabled → (∀ S rest, decode s.input ≠ .ok (.snaprestore S, rest)) →
    step s = .next t → t.OwnerEnabled

/-- Every step, a snapshot restore too, keeps the types of the state items: an even timer owner and bit 7 of every IER 0
(10_state.md sections 3 and 6, decisions D11, D39; 45_system_ops.md section 2; the type check is log entry 11). -/
def Obligations.TypesKeptByEveryStep : Prop :=
  ∀ s t : State, s.blk.Typed → step s = .next t → t.blk.Typed

/-- Every step but a snapshot restore keeps bits 5:1 of every current-mode byte 0 (10_state.md section 5). -/
def Obligations.ModeByteKept : Prop :=
  ∀ s t : State, s.ModeByteOk → (∀ S rest, decode s.input ≠ .ok (.snaprestore S, rest)) →
    step s = .next t → t.ModeByteOk

/-- Every step but a snapshot restore keeps an active phoneme owned (43_speech.md section 4, the comment in R191). -/
def Obligations.ActivePhonemeStaysOwned : Prop :=
  ∀ s t : State, s.PhonemeOwned → (∀ S rest, decode s.input ≠ .ok (.snaprestore S, rest)) →
    step s = .next t → t.PhonemeOwned

/-- Every step keeps the last assert or deassert event of each source in agreement with the level of that source
(60_exceptions.md section 1, decision D35). -/
def Obligations.LastEventAgreesWithLevel : Prop :=
  ∀ s t : State, s.LinesTold → step s = .next t → t.LinesTold

/-- The state after reset meets every invariant stated here. -/
def Obligations.ResetStateMeetsInvariants : Prop :=
  State.reset.Summary ∧ State.reset.OwnerEnabled ∧ State.reset.blk.Typed ∧ State.reset.ModeByteOk ∧
    State.reset.PhonemeOwned ∧ State.reset.LinesTold

/-! ## Reset, attach, detach, configuration, snapshots -/

/-- After reset every item of the block has its reset value (10_state.md section 9); the Phasor configuration 0, 0 is the
model's choice (log entry 7). -/
def Obligations.ResetStateIsAllZero : Prop :=
  State.reset.blk.AtReset false false ∧ State.reset.attached = true ∧ State.reset.params = ⟨1, true, true, false⟩ ∧
    State.reset.blk.piaIrqLevel = false ∧ State.reset.blk.speechIrqLevel = false

/-- RESET sets every item to its reset value, keeps the Phasor configuration, resets the eight chips in order and
deasserts both sources (70_reset_and_hazards.md section 1, decision D32). -/
def Obligations.ResetClearsAllButConfiguration : Prop :=
  ∀ s : State, s.attached = true →
    ∃ t, exec .reset s = .next t ∧ t.blk.AtReset s.blk.phasorEnable s.blk.phasorMode ∧
      t.blk.piaIrqLevel = false ∧ t.blk.speechIrqLevel = false ∧
      t.outputs = s.outputs ++
        [.soundGeneratorReset (psgIndex 0 0), .soundGeneratorReset (psgIndex 0 1),
         .soundGeneratorReset (psgIndex 1 0), .soundGeneratorReset (psgIndex 1 1),
         .soundGeneratorReset (psgIndex 2 0), .soundGeneratorReset (psgIndex 2 1),
         .soundGeneratorReset (psgIndex 3 0), .soundGeneratorReset (psgIndex 3 1)] ∧
      ModelKept s t ∧ t.result = none

/-- ATTACH creates the block: every item at its reset value, the Phasor configuration as given, both sources deasserted, no
chip reset (45_system_ops.md section 4, decision D42). It runs in every state, an attached one too (log entry 16). -/
def Obligations.AttachCreatesTheBlock : Prop :=
  ∀ (s : State) (e m : Bool),
    ∃ t, exec (.attach e m) s = .next t ∧ t.blk.AtReset e m ∧ t.attached = true ∧
      t.blk.piaIrqLevel = false ∧ t.blk.speechIrqLevel = false ∧ t.outputs = s.outputs ∧
      t.params = s.params ∧ t.freeCount = s.freeCount ∧ t.input = s.input ∧ t.result = none

/-- DETACH ends the block and emits nothing, and on a detached block every operation but ATTACH is refused
(45_system_ops.md section 4, decision D42; the flag `attached` is log entry 8). -/
def Obligations.DetachAdmitsOnlyAttach : Prop :=
  (∀ s : State, s.attached = true →
      ∃ t, exec .detach s = .next t ∧ t.attached = false ∧ t.trace = s.trace ∧ t.params = s.params ∧
        t.freeCount = s.freeCount ∧ t.input = s.input ∧ t.result = none) ∧
    ∀ (s : State) (i : Instr), s.attached = false → (∀ e m, i ≠ .attach e m) → exec i s = .refused .detached

/-- CONFIG sets the two Phasor bits and nothing else (45_system_ops.md section 1, decision D33). -/
def Obligations.ConfigSetsPhasorStateOnly : Prop :=
  ∀ (s : State) (e m : Bool), s.attached = true →
    ∃ t, exec (.config e m) s = .next t ∧ t.blk = { s.blk with phasorEnable := e, phasorMode := m } ∧
      ModelKept s t ∧ t.outputs = s.outputs ∧ t.result = none

/-- SNAPSAVE returns the whole state of the block and changes nothing (45_system_ops.md section 2, decision D34). -/
def Obligations.SnapshotSaveReturnsTheBlock : Prop :=
  ∀ s : State, s.attached = true →
    ∃ t, exec .snapsave s = .next t ∧ NothingBut s t (some (.snapshot s.blk))

/-- SNAPRESTORE of a snapshot that type-checks sets every item to its saved value but the summary bits, which are
recomputed (45_system_ops.md section 2, decision D34; the check is log entry 11). -/
def Obligations.SnapshotRestoreRecomputesSummaries : Prop :=
  ∀ (s : State) (S : Block), s.attached = true → S.Typed →
    ∃ t, exec (.snaprestore S) s = .next t ∧ (∀ d, SameButSummary (S.dev d) (t.dev d)) ∧ t.Summary ∧
      GlobalsKept { s with blk := S } t ∧ ModelKept s t ∧ t.outputs = s.outputs ∧ t.result = none

/-- Save, detach, attach, restore and save again gives the same snapshot, whatever configuration the attach had
(45_system_ops.md section 2, derived there; 95_test_vectors.md S5). -/
def Obligations.SnapshotRoundTrip : Prop :=
  ∀ (s : State) (e m : Bool), s.attached = true → s.Summary → s.blk.Typed →
    ∃ t₁ t₂ t₃ t₄ t₅ S, exec .snapsave s = .next t₁ ∧ t₁.result = some (.snapshot S) ∧
      exec .detach t₁ = .next t₂ ∧ exec (.attach e m) t₂ = .next t₃ ∧ exec (.snaprestore S) t₃ = .next t₄ ∧
      exec .snapsave t₄ = .next t₅ ∧ t₅.result = some (.snapshot S) ∧ t₄.blk = s.blk

/-! ## PIA register writes -/

/-- The writes of DDRB, DDRA, ACR and PCR store the byte and change nothing else; the write of the serial register
changes nothing (40_pia_registers.md R104, R105, R112, R113, R114). -/
def Obligations.ControlRegisterWritesStore : Prop :=
  ∀ (s : State) (d : DevIx) (v : Byte), s.attached = true →
    (∃ t, exec (.wDdrb d v) s = .next t ∧ OnlyDevice s t d { s.dev d with ddrb := v } none) ∧
    (∃ t, exec (.wDdra d v) s = .next t ∧ OnlyDevice s t d { s.dev d with ddra := v } none) ∧
    (∃ t, exec (.wSr d v) s = .next t ∧ NothingBut s t none) ∧
    (∃ t, exec (.wAcr d v) s = .next t ∧ OnlyDevice s t d { s.dev d with acr := v } none) ∧
    (∃ t, exec (.wPcr d v) s = .next t ∧ OnlyDevice s t d { s.dev d with pcr := v } none)

/-- The writes of T1CL and T1LL store into the low byte of the timer 1 latch, the write of T2L into the low byte of the
timer 2 latch; no counter changes and nothing is armed (40_pia_registers.md section 2, decision D7). -/
def Obligations.LatchLowWritesStore : Prop :=
  ∀ (s : State) (d : DevIx) (v : Byte), s.attached = true →
    (∃ t, exec (.wT1cl d v) s = .next t ∧
      OnlyDevice s t d { s.dev d with t1l := ((s.dev d).t1l &&& 0xFF00#16) ||| v.setWidth 16 } none) ∧
    (∃ t, exec (.wT1ll d v) s = .next t ∧
      OnlyDevice s t d { s.dev d with t1l := ((s.dev d).t1l &&& 0xFF00#16) ||| v.setWidth 16 } none) ∧
    (∃ t, exec (.wT2l d v) s = .next t ∧
      OnlyDevice s t d { s.dev d with t2l := ((s.dev d).t2l &&& 0xFF00#16) ||| v.setWidth 16 } none)

/-- The writes of ORA and ORAN store the byte, masked by the data direction when PORT_DDR_MASK is set
(40_pia_registers.md sections 1 and 2, decisions D6, D31). -/
def Obligations.PortAWritesStoreMasked : Prop :=
  ∀ (s : State) (d : DevIx) (v : Byte), s.attached = true →
    (∃ t, exec (.wOra d v) s = .next t ∧
      OnlyDevice s t d { s.dev d with ora := if s.params.portDdrMask then v &&& (s.dev d).ddra else v } none) ∧
    (∃ t, exec (.wOran d v) s = .next t ∧
      OnlyDevice s t d { s.dev d with ora := if s.params.portDdrMask then v &&& (s.dev d).ddra else v } none)

/-- A port-B write in speech-data mode stores the byte, clears the peripheral flag and plays the translated code; it
reaches no sound generator (40_pia_registers.md section 2, 44_votrax.md section 2, decisions D4, D19, D24, D26). -/
def Obligations.PortBWriteInSpeechDataMode : Prop :=
  ∀ (s : State) (d : DevIx) (v : Byte), s.attached = true → (s.dev d).ddrb = 0xFF#8 → (s.dev d).pcr = 0xB0#8 →
    ∃ t, exec (.wOrb d v) s = .next t ∧
      FlagsBecome s t d { s.dev d with orb := v } ((s.dev d).ifr &&& 0x7F#8 &&& ~~~(1#8 <<< s.params.periphBit.val)) ∧
      Plays s t d (votraxTable (v.setWidth 6)) true ∧
      TimerKept s t ∧ PhasorKept s t ∧ t.blk.speechLine = s.blk.speechLine ∧ ModelKept s t ∧ t.result = none

/-- A port-B write in sound-generator-control mode stores the (masked) byte and applies the function its low three bits
select to each selected chip of the device: chip 0 alone in the classic layout; in Phasor native mode the chips whose
select bit, 3 or 4, is 0 (42_psg_decoder.md sections 2 and 3, 30_encoding.md section 4, decisions D6, D14 to D19). -/
def Obligations.PortBWriteDrivesSelectedChips : Prop :=
  ∀ (s : State) (d : DevIx) (v : Byte), s.attached = true →
    ¬((s.dev d).ddrb = 0xFF#8 ∧ (s.dev d).pcr = 0xB0#8) →
    ∀ (cw : Byte) (selected : ChipIx → Bool),
      cw = (if s.params.portDdrMask then v &&& (s.dev d).ddrb else v) →
      (∀ k, selected k =
        if s.blk.phasorEnable && s.blk.phasorMode then !cw.getLsbD (3 + k.val) else k.val == 0) →
      ∃ t, exec (.wOrb d v) s = .next t ∧
        t.dev d = { s.dev d with
          orb := cw
          curReg := if cw.toNat % 8 = 7 ∧ (selected 0 || selected 1) = true ∧ (s.dev d).ora.toNat ≤ 15
            then (s.dev d).ora.setWidth 4 else (s.dev d).curReg
          psg := (t.dev d).psg } ∧
        (∀ k r, (t.dev d).psgReg k r =
          if selected k = true ∧ cw.toNat % 8 < 4 then 0#8
          else if selected k = true ∧ cw.toNat % 8 = 6 ∧ r = (s.dev d).curReg then (s.dev d).ora
          else (s.dev d).psgReg k r) ∧
        t.outputs = s.outputs ++ (([0, 1] : List ChipIx).filter selected).flatMap (fun k =>
          if cw.toNat % 8 < 4 then [.soundGeneratorReset (psgIndex d k)]
          else if cw.toNat % 8 = 6 then [.soundGeneratorWrite (psgIndex d k) (s.dev d).curReg (s.dev d).ora]
          else []) ∧
        OthersKept s t d ∧ GlobalsKept s t ∧ ModelKept s t ∧ t.result = none

/-- The write of T1CH stores the high latch byte, loads the counter, clears the timer1 flag and makes an A instance with
its timer 1 interrupt enabled the owner (40_pia_registers.md section 2, 41_timer_engine.md section 1, decisions D7, D12). -/
def Obligations.TimerOneCounterHighWriteLoadsAndArms : Prop :=
  ∀ (s : State) (d : DevIx) (v : Byte), s.attached = true →
    ∀ w : Half, w = (v.setWidth 16 <<< 8) ||| ((s.dev d).t1l &&& 0x00FF#16) →
      ∃ t, exec (.wT1ch d v) s = .next t ∧
        FlagsBecome s t d { s.dev d with t1l := w, t1c := w } ((s.dev d).ifr &&& 0x3F#8) ∧
        (if d.val % 2 = 0 ∧ (s.dev d).ier.getLsbD 6 = true
          then t.blk.timerOwner = some d ∧ t.blk.timerPeriod = w else TimerKept s t) ∧
        PhasorKept s t ∧ t.blk.speechLine = s.blk.speechLine ∧ PhonemeKept s t ∧ ModelKept s t ∧
        t.outputs = s.outputs ∧ t.result = none

/-- The write of T1LH stores the high latch byte and clears the timer1 flag; it neither loads the counter nor arms
(40_pia_registers.md section 2, decision D7; 90_conflicts.md C3). -/
def Obligations.TimerOneLatchHighWriteOnlyClearsFlag : Prop :=
  ∀ (s : State) (d : DevIx) (v : Byte), s.attached = true →
    ∃ t, exec (.wT1lh d v) s = .next t ∧
      FlagsBecome s t d
        { s.dev d with t1l := (v.setWidth 16 <<< 8) ||| ((s.dev d).t1l &&& 0x00FF#16) } ((s.dev d).ifr &&& 0x3F#8) ∧
      GlobalsKept s t ∧ ModelKept s t ∧ t.outputs = s.outputs ∧ t.result = none

/-- The write of T2H stores the high latch byte, loads the counter, clears the timer2 flag and starts timer 2
(40_pia_registers.md section 2, decisions D4, D7, D9). -/
def Obligations.TimerTwoHighWriteLoadsAndStarts : Prop :=
  ∀ (s : State) (d : DevIx) (v : Byte), s.attached = true →
    ∀ w : Half, w = (v.setWidth 16 <<< 8) ||| ((s.dev d).t2l &&& 0x00FF#16) →
      ∃ t, exec (.wT2h d v) s = .next t ∧
        FlagsBecome s t d { s.dev d with t2l := w, t2c := w, t2Armed := true } ((s.dev d).ifr &&& 0x5F#8) ∧
        GlobalsKept s t ∧ ModelKept s t ∧ t.outputs = s.outputs ∧ t.result = none

/-- The write of IFR clears exactly the cause bits set in the low seven bits of the byte (40_pia_registers.md R115,
30_encoding.md R68). -/
def Obligations.FlagWriteClearsNamedCauses : Prop :=
  ∀ (s : State) (d : DevIx) (v : Byte), s.attached = true →
    ∃ t, exec (.wIfr d v) s = .next t ∧ FlagsBecome s t d (s.dev d) ((s.dev d).ifr &&& ~~~v &&& 0x7F#8) ∧
      GlobalsKept s t ∧ ModelKept s t ∧ t.outputs = s.outputs ∧ t.result = none

/-- The write of IER with bit 7 set adds the mask and arms; with bit 7 clear it removes the mask and, when the timer 1
enable is then clear, stops the timer if the device owns it (40_pia_registers.md section 2, 30_encoding.md section 5,
decisions D11, D12, D39). -/
def Obligations.EnableWriteAddsOrRemovesMask : Prop :=
  ∀ (s : State) (d : DevIx) (v : Byte), s.attached = true →
    (v.getLsbD 7 = true →
      ∃ t, exec (.wIer d v) s = .next t ∧
        FlagsBecome s t d { s.dev d with ier := (s.dev d).ier ||| (v &&& 0x7F#8) } ((s.dev d).ifr &&& 0x7F#8) ∧
        (if d.val % 2 = 0 ∧ ((s.dev d).ier.getLsbD 6 = true ∨ v.getLsbD 6 = true)
          then t.blk.timerOwner = some d ∧ t.blk.timerPeriod = (s.dev d).t1l else TimerKept s t) ∧
        PhasorKept s t ∧ t.blk.speechLine = s.blk.speechLine ∧ PhonemeKept s t ∧ ModelKept s t ∧
        t.outputs = s.outputs ∧ t.result = none) ∧
    (v.getLsbD 7 = false →
      ∃ t, exec (.wIer d v) s = .next t ∧
        FlagsBecome s t d { s.dev d with ier := (s.dev d).ier &&& ~~~v &&& 0x7F#8 } ((s.dev d).ifr &&& 0x7F#8) ∧
        t.blk.timerOwner =
          (if s.blk.timerOwner = some d ∧ ((s.dev d).ier.getLsbD 6 = false ∨ v.getLsbD 6 = true)
            then none else s.blk.timerOwner) ∧
        t.blk.timerPeriod = s.blk.timerPeriod ∧
        PhasorKept s t ∧ t.blk.speechLine = s.blk.speechLine ∧ PhonemeKept s t ∧ ModelKept s t ∧
        t.outputs = s.outputs ∧ t.result = none)

/-! ## PIA register reads -/

/-- Eleven PIA reads return the stored register, a byte of it, or (IER) 0x80, and change nothing (40_pia_registers.md
section 3: R120, R122, R123, R125, R126, R127, R129, R131 to R134). Which byte of the counter or of the latch the reads of
T1CH, T1LL, T1LH and T2H return is decision D7, and that reads return what is stored is decision D31. -/
def Obligations.PlainReadsReturnTheRegister : Prop :=
  ∀ (s : State) (d : DevIx), s.attached = true →
    Reads s (.rOrb d) (s.dev d).orb ∧ Reads s (.rDdrb d) (s.dev d).ddrb ∧ Reads s (.rDdra d) (s.dev d).ddra ∧
    Reads s (.rT1ch d) ((s.dev d).t1c.extractLsb' 8 8) ∧ Reads s (.rT1ll d) ((s.dev d).t1l.extractLsb' 0 8) ∧
    Reads s (.rT1lh d) ((s.dev d).t1l.extractLsb' 8 8) ∧ Reads s (.rT2h d) ((s.dev d).t2c.extractLsb' 8 8) ∧
    Reads s (.rAcr d) (s.dev d).acr ∧ Reads s (.rPcr d) (s.dev d).pcr ∧ Reads s (.rIfr d) (s.dev d).ifr ∧
    Reads s (.rIer d) 0x80#8

/-- The reads of ORA and ORAN return the stored port A without side effect, the read of the serial register returns 0x00
(40_pia_registers.md section 3, decision D31). -/
def Obligations.PortAAndSerialReads : Prop :=
  ∀ (s : State) (d : DevIx), s.attached = true →
    Reads s (.rOra d) (s.dev d).ora ∧ Reads s (.rOran d) (s.dev d).ora ∧ Reads s (.rSr d) 0x00#8

/-- The reads of T1CL and T2L return the counter's low byte and clear the timer's flag, and nothing else
(40_pia_registers.md section 3: R124, R128). That they return the byte of the counter is decision D7, and that the timer2
flag is bit 5 is decision D4. -/
def Obligations.CounterLowReadsAcknowledge : Prop :=
  ∀ (s : State) (d : DevIx), s.attached = true →
    (∃ t, exec (.rT1cl d) s = .next t ∧ FlagsBecome s t d (s.dev d) ((s.dev d).ifr &&& 0x3F#8) ∧
      GlobalsKept s t ∧ ModelKept s t ∧ t.outputs = s.outputs ∧
      t.result = some (.byte ((s.dev d).t1c.extractLsb' 0 8))) ∧
    (∃ t, exec (.rT2l d) s = .next t ∧ FlagsBecome s t d (s.dev d) ((s.dev d).ifr &&& 0x5F#8) ∧
      GlobalsKept s t ∧ ModelKept s t ∧ t.outputs = s.outputs ∧
      t.result = some (.byte ((s.dev d).t2c.extractLsb' 0 8)))

/-! ## Timers -/

/-- TICK: every counter counts down by `n` modulo 65536. Timer 1 of the owner sets its flag when it passes below zero, and
then reloads and re-arms (free-running) or gives up the slot (one-shot); a started timer 2 that passes below zero sets its
flag and is no longer started. The summaries are recomputed if and only if some flag was set (41_timer_engine.md section 2,
decisions D4, D5, D8, D9, D10, D12, D40). -/
def Obligations.TickCountsAndFires : Prop :=
  ∀ (s : State) (n : Nat), s.attached = true → n ≤ 0xFFFF →
    ∀ (under₁ under₂ : DevIx → Bool),
      (∀ d, under₁ d = (decide (s.blk.timerOwner = some d) && decide (n > (s.dev d).t1c.toNat))) →
      (∀ d, under₂ d = ((s.dev d).t2Armed && decide (n > (s.dev d).t2c.toNat))) →
      ∃ t, exec (.tick n) s = .next t ∧
        (∀ d, t.dev d = { s.dev d with
            t1c := if under₁ d = true ∧ (s.dev d).acr.getLsbD 6 = true then (s.dev d).t1l
              else (s.dev d).t1c - BitVec.ofNat 16 n
            t2c := (s.dev d).t2c - BitVec.ofNat 16 n
            t2Armed := (s.dev d).t2Armed && !under₂ d
            ifr := (t.dev d).ifr } ∧
          (t.dev d).ifr &&& 0x7F#8 =
            ((s.dev d).ifr ||| (if under₁ d then 0x40#8 else 0#8) ||| (if under₂ d then 0x20#8 else 0#8)) &&& 0x7F#8) ∧
        (if ∃ d, under₁ d = true ∨ under₂ d = true then t.Summary else ∀ d, (t.dev d).ifr = (s.dev d).ifr) ∧
        t.blk.timerOwner =
          (if ∃ d, under₁ d = true ∧ (s.dev d).acr.getLsbD 6 = false then none else s.blk.timerOwner) ∧
        (∀ d, under₁ d = true → (s.dev d).acr.getLsbD 6 = true → d.val % 2 = 0 → (s.dev d).ier.getLsbD 6 = true →
          t.blk.timerPeriod = (s.dev d).t1l) ∧
        ((¬∃ d, under₁ d = true ∧ (s.dev d).acr.getLsbD 6 = true ∧ d.val % 2 = 0 ∧ (s.dev d).ier.getLsbD 6 = true) →
          t.blk.timerPeriod = s.blk.timerPeriod) ∧
        PhasorKept s t ∧ t.blk.speechLine = s.blk.speechLine ∧ PhonemeKept s t ∧ ModelKept s t ∧
        t.outputs = s.outputs ∧ t.result = none

/-- Over all operations: a timer1 flag that was clear is set only by a tick, and only for the timer owner, or brought in by
a snapshot restore (60_exceptions.md section 1, 41_timer_engine.md section 2, decisions D8, D10). -/
def Obligations.TimerOneFlagSetOnlyByOwnersTick : Prop :=
  ∀ (i : Instr) (s t : State) (d : DevIx), exec i s = .next t →
    (s.dev d).ifr.getLsbD 6 = false → (t.dev d).ifr.getLsbD 6 = true →
      (∃ n, i = .tick n ∧ s.blk.timerOwner = some d ∧ n > (s.dev d).t1c.toNat) ∨ ∃ S, i = .snaprestore S

/-- UpdatePeriod is the period of the owner, or the host clock divided by 60 when there is none (41_timer_engine.md
section 3, decision D13). -/
def Obligations.UpdatePeriodFallsBack : Prop :=
  ∀ b : Block, (b.timerOwner = none → b.updatePeriod = Config.hostClockHz / 60) ∧
    ∀ d, b.timerOwner = some d → b.updatePeriod = b.timerPeriod.toNat

/-! ## Speech -/

/-- The writes of inflection, rate/inflection and filter-frequency store the byte and change nothing else (43_speech.md
R181, R182, R184). -/
def Obligations.PlainSpeechWritesStore : Prop :=
  ∀ (s : State) (d : DevIx) (v : Byte), s.attached = true →
    (∃ t, exec (.swInflect d v) s = .next t ∧ OnlyDevice s t d { s.dev d with spInflect := v } none) ∧
    (∃ t, exec (.swRateinf d v) s = .next t ∧ OnlyDevice s t d { s.dev d with spRateInf := v } none) ∧
    (∃ t, exec (.swFilt d v) s = .next t ∧ OnlyDevice s t d { s.dev d with spFilt := v } none)

/-- The write of control/articulation/amplitude stores the byte, and on a 1-to-0 edge of bit 7 latches the duration mode
(43_speech.md sections 1 and 3, decision D22). -/
def Obligations.ControlWriteRelatchesOnFallingEdge : Prop :=
  ∀ (s : State) (d : DevIx) (v : Byte), s.attached = true →
    ∃ t, exec (.swCtrl d v) s = .next t ∧
      OnlyDevice s t d { s.dev d with
        spCtrl := v
        spCur :=
          if (s.dev d).spCtrl.getLsbD 7 = true ∧ v.getLsbD 7 = false then
            if s.params.relatchClearsPin then (s.dev d).spDurPhon &&& 0xC0#8
            else ((s.dev d).spCur &&& 0x3F#8) ||| ((s.dev d).spDurPhon &&& 0xC0#8)
          else (s.dev d).spCur } none

/-- Over all operations but reset, attach, detach and restore: the latched mode of a device changes only where its control
bit goes from 1 to 0, and then to the duration mode stored before (10_state.md section 5, decision D22). -/
def Obligations.ModeLatchedOnlyOnControlEdge : Prop :=
  ∀ (i : Instr) (s t : State) (d : DevIx), exec i s = .next t →
    i ≠ .reset → i ≠ .detach → (∀ e m, i ≠ .attach e m) → (∀ S, i ≠ .snaprestore S) →
    (t.dev d).spCur &&& 0xC0#8 ≠ (s.dev d).spCur &&& 0xC0#8 →
      (s.dev d).spCtrl.getLsbD 7 = true ∧ (t.dev d).spCtrl.getLsbD 7 = false ∧
        (t.dev d).spCur &&& 0xC0#8 = (s.dev d).spDurPhon &&& 0xC0#8

/-- Every speech read returns the pin bit in bit 7 and zeros below, and changes nothing (43_speech.md section 2,
30_encoding.md section 5, decision D31). -/
def Obligations.SpeechReadsReturnThePin : Prop :=
  ∀ (s : State) (d : DevIx), s.attached = true →
    ∀ b : Byte, b = (if (s.dev d).spCur.getLsbD 0 then 0x80#8 else 0x00#8) →
      Reads s (.srDurphon d) b ∧ Reads s (.srInflect d) b ∧ Reads s (.srRateinf d) b ∧ Reads s (.srCtrl d) b ∧
        Reads s (.srFilt d) b

/-- With Phasor disabled the write of duration/phoneme clears the peripheral flag and the pin, stores the byte and plays
its phoneme once (43_speech.md section 1, decisions D4, D20, D21, D24). -/
def Obligations.PhonemeWriteWithPhasorDisabled : Prop :=
  ∀ (s : State) (d : DevIx) (v : Byte), s.attached = true → s.blk.phasorEnable = false →
    ∃ t, exec (.swDurphon d v) s = .next t ∧
      FlagsBecome s t d { s.dev d with spDurPhon := v, spCur := (s.dev d).spCur &&& 0xFE#8 }
        ((s.dev d).ifr &&& 0x7F#8 &&& ~~~(1#8 <<< s.params.periphBit.val)) ∧
      Plays s t d (v.setWidth 6) false ∧
      TimerKept s t ∧ PhasorKept s t ∧ t.blk.speechLine = s.blk.speechLine ∧ ModelKept s t ∧ t.result = none

/-- With Phasor enabled the write of duration/phoneme deasserts the speech line, clears the pin and stores the byte; its
phoneme is played unless it is 0 and suppressed (43_speech.md section 1, decisions D20, D21, D24, D25). -/
def Obligations.PhonemeWriteWithPhasorEnabled : Prop :=
  ∀ (s : State) (d : DevIx) (v : Byte), s.attached = true → s.blk.phasorEnable = true →
    ∃ t, exec (.swDurphon d v) s = .next t ∧
      t.dev d = { s.dev d with spDurPhon := v, spCur := (s.dev d).spCur &&& 0xFE#8 } ∧ OthersKept s t d ∧
      (if v &&& 0x3F#8 = 0#8 ∧ (s.blk.activePhoneme.isSome || s.params.phasorZeroSuppressAlways) = true
        then t.outputs = s.outputs ∧ PhonemeKept s t else Plays s t d (v.setWidth 6) false) ∧
      t.blk.speechLine = false ∧ TimerKept s t ∧ PhasorKept s t ∧ ModelKept s t ∧ t.result = none

/-- DONE with nothing playing changes nothing (43_speech.md section 4, decision D24). -/
def Obligations.DoneWithNothingPlaying : Prop :=
  ∀ s : State, s.attached = true → s.blk.activePhoneme = none →
    ∃ t, exec .done s = .next t ∧ NothingBut s t none

/-- DONE with a phoneme playing empties the slot. For a phoneme of the Votrax route it sets the owner's peripheral flag;
otherwise, unless the latched mode is IRQ-disabled, it sets the pin and raises the speech line (Phasor enabled) or the
peripheral flag. Where no device owns the phoneme the device is a free value (43_speech.md section 4, decisions D4, D20,
D23, D24; log entry 12). -/
def Obligations.DoneCompletesThePhoneme : Prop :=
  ∀ (s : State) (p : Phoneme), s.attached = true → s.blk.activePhoneme = some p →
    ∃ (d : DevIx) (t : State), (∀ e, s.blk.speechOwner = some e → d = e) ∧ exec .done s = .next t ∧
      t.blk.activePhoneme = none ∧ t.blk.speechOwner = s.blk.speechOwner ∧ t.blk.viaVotrax = false ∧
      (s.blk.viaVotrax = true →
        FlagsBecome s t d (s.dev d) (((s.dev d).ifr ||| 1#8 <<< s.params.periphBit.val) &&& 0x7F#8) ∧
          t.blk.speechLine = s.blk.speechLine) ∧
      (s.blk.viaVotrax = false → (s.dev d).spCur &&& 0xC0#8 = 0#8 →
        (∀ e, t.dev e = s.dev e) ∧ t.blk.speechLine = s.blk.speechLine) ∧
      (s.blk.viaVotrax = false → (s.dev d).spCur &&& 0xC0#8 ≠ 0#8 → s.blk.phasorEnable = true →
        t.dev d = { s.dev d with spCur := (s.dev d).spCur ||| 0x01#8 } ∧ OthersKept s t d ∧
          t.blk.speechLine = true) ∧
      (s.blk.viaVotrax = false → (s.dev d).spCur &&& 0xC0#8 ≠ 0#8 → s.blk.phasorEnable = false →
        FlagsBecome s t d { s.dev d with spCur := (s.dev d).spCur ||| 0x01#8 }
            (((s.dev d).ifr ||| 1#8 <<< s.params.periphBit.val) &&& 0x7F#8) ∧
          t.blk.speechLine = s.blk.speechLine) ∧
      TimerKept s t ∧ PhasorKept s t ∧ t.attached = s.attached ∧ t.params = s.params ∧ t.input = s.input ∧
      t.freeCount = s.freeCount + (if s.blk.speechOwner = none then 1 else 0) ∧
      t.outputs = s.outputs ∧ t.result = none

/-! ## The PSG functions by themselves -/

/-- PSG.INACTIVE and PSG.READ change nothing and emit nothing (42_psg_decoder.md section 3: R165). That they are operations
that complete by themselves is the model's choice (log entry 9; by 30_encoding.md R60 and R73 no agent issues them). -/
def Obligations.InactiveAndReadFunctionsDoNothing : Prop :=
  ∀ (s : State) (d : DevIx) (k : ChipIx), s.attached = true →
    (∃ t, exec (.psgInactive d k) s = .next t ∧ NothingBut s t none) ∧
      ∃ t, exec (.psgRead d k) s = .next t ∧ NothingBut s t none

/-- PSG.LATCH latches port A as the register index if it is at most 0x0F, else nothing; in speech-data mode the decoder is
skipped and it does nothing (42_psg_decoder.md sections 1 and 3: R160, R167; 70_reset_and_hazards.md R270). That it
completes by itself, and that the mode holds for it then, is the model's choice (log entry 9). -/
def Obligations.LatchFunctionIgnoresLargeAddresses : Prop :=
  ∀ (s : State) (d : DevIx) (k : ChipIx), s.attached = true →
    ∃ t, exec (.psgLatch d k) s = .next t ∧
      OnlyDevice s t d { s.dev d with
        curReg := if ¬((s.dev d).ddrb = 0xFF#8 ∧ (s.dev d).pcr = 0xB0#8) ∧ (s.dev d).ora.toNat ≤ 15
          then (s.dev d).ora.setWidth 4 else (s.dev d).curReg } none

/-- PSG.RESET zeroes the sixteen registers of its chip and keeps the latched index; PSG.WRITE writes port A to the latched
register of its chip. Outside Phasor native mode chip (d, 1) is not reached, and in speech-data mode no chip of the device
is; where the chip is not reached both change nothing and emit nothing (42_psg_decoder.md sections 1 and 3, decisions D15,
D16, D18; 10_state.md section 6; 70_reset_and_hazards.md R270). That they complete by themselves, and that the modes hold
for them then, is the model's choice (log entry 9). -/
def Obligations.ResetAndWriteFunctionsReachOneChip : Prop :=
  ∀ (s : State) (d : DevIx) (k : ChipIx) (lo : BitVec 2), s.attached = true →
    ∀ reached : Bool,
      reached = ((s.blk.phasorEnable && s.blk.phasorMode || k == 0) &&
        !((s.dev d).ddrb == 0xFF#8 && (s.dev d).pcr == 0xB0#8)) →
    (∃ t, exec (.psgReset lo d k) s = .next t ∧ t.dev d = { s.dev d with psg := (t.dev d).psg } ∧
      (∀ k' r, (t.dev d).psgReg k' r = if reached = true ∧ k' = k then 0#8 else (s.dev d).psgReg k' r) ∧
      t.outputs = s.outputs ++ (if reached then [.soundGeneratorReset (psgIndex d k)] else []) ∧
      OthersKept s t d ∧ GlobalsKept s t ∧ ModelKept s t ∧ t.result = none) ∧
    (∃ t, exec (.psgWrite d k) s = .next t ∧ t.dev d = { s.dev d with psg := (t.dev d).psg } ∧
      (∀ k' r, (t.dev d).psgReg k' r =
        if reached = true ∧ k' = k ∧ r = (s.dev d).curReg then (s.dev d).ora else (s.dev d).psgReg k' r) ∧
      t.outputs = s.outputs ++
        (if reached then [.soundGeneratorWrite (psgIndex d k) (s.dev d).curReg (s.dev d).ora] else []) ∧
      OthersKept s t d ∧ GlobalsKept s t ∧ ModelKept s t ∧ t.result = none)

/-! ## The card window -/

/-- In the classic layout a window access completes as the register access its offset names: the A instance at 0x00 to
0x0F, the B instance's speech registers at 0x40 to 0x44, the B instance at 0x80 to 0x8F; at every other offset it is
refused (30_encoding.md section 6, 45_system_ops.md section 3, decisions D27, D28). -/
def Obligations.ClassicWindowIsTheRegisterAccess : Prop :=
  ∀ (s : State) (c off v : Byte) (a b : DevIx), s.attached = true →
    (s.blk.phasorEnable && s.blk.phasorMode) = false → c.toNat ≤ 1 → a.val = 2 * c.toNat → b.val = 2 * c.toNat + 1 →
    (off.toNat ≤ 0x0F →
      (∃ t, exec (.busr c off) s = .next t ∧ exec (piaReadInstr (off.setWidth 4) a) s = .next t) ∧
        ∃ t, exec (.busw c off v) s = .next t ∧ exec (piaWriteInstr (off.setWidth 4) a v) s = .next t) ∧
    (0x40 ≤ off.toNat ∧ off.toNat ≤ 0x44 →
      (∃ i t, speechReadInstr (off.setWidth 4) b = some i ∧ exec (.busr c off) s = .next t ∧ exec i s = .next t) ∧
        ∃ i t, speechWriteInstr (off.setWidth 4) b v = some i ∧ exec (.busw c off v) s = .next t ∧
          exec i s = .next t) ∧
    (0x80 ≤ off.toNat ∧ off.toNat ≤ 0x8F →
      (∃ t, exec (.busr c off) s = .next t ∧ exec (piaReadInstr (off.setWidth 4) b) s = .next t) ∧
        ∃ t, exec (.busw c off v) s = .next t ∧ exec (piaWriteInstr (off.setWidth 4) b v) s = .next t) ∧
    (¬off.toNat ≤ 0x0F → ¬(0x40 ≤ off.toNat ∧ off.toNat ≤ 0x44) → ¬(0x80 ≤ off.toNat ∧ off.toNat ≤ 0x8F) →
      exec (.busr c off) s = .refused .offsetInNoRange ∧ exec (.busw c off v) s = .refused .offsetInNoRange)

/-- In Phasor native mode a window access completes as the accesses its two select bits and the speech range name, the A
instance before the B instance before the speech register, a read OR-ing the bytes (30_encoding.md section 6, decision
D29; the order is log entry 17). -/
def Obligations.NativeWindowReachesSelectedDevices : Prop :=
  ∀ (s : State) (c off v : Byte) (a b : DevIx), s.attached = true →
    (s.blk.phasorEnable && s.blk.phasorMode) = true → c.toNat ≤ 1 → a.val = 2 * c.toNat → b.val = 2 * c.toNat + 1 →
    (∃ t, exec (.busw c off v) s = .next t ∧
      runWrites
        ((if off.getLsbD phSelFirstBit.val then [piaWriteInstr (off.setWidth 4) a v] else []) ++
          (if off.getLsbD phSelSecondBit.val then [piaWriteInstr (off.setWidth 4) b v] else []) ++
          (if 0x40 ≤ off.toNat ∧ off.toNat ≤ 0x44 then (speechWriteInstr (off.setWidth 4) b v).toList else [])) s =
        .next t) ∧
    ∃ t, exec (.busr c off) s = .next t ∧
      runReads
        ((if off.getLsbD phSelFirstBit.val then [piaReadInstr (off.setWidth 4) a] else []) ++
          (if off.getLsbD phSelSecondBit.val then [piaReadInstr (off.setWidth 4) b] else []) ++
          (if 0x40 ≤ off.toNat ∧ off.toNat ≤ 0x44 then (speechReadInstr (off.setWidth 4) b).toList else [])) 0#8 s =
        .next t

/-- Each of the four window ranges by itself completes as the register access it names (30_encoding.md section 6,
decisions D27, D28). That a range runs alone is log entry 9's choice, that it does so in native mode too log entry 10's. -/
def Obligations.WindowRangesReachTheirRegisters : Prop :=
  ∀ (s : State) (c : CardIx) (r₄ : BitVec 4) (r₂ : BitVec 2) (v : Byte) (a b : DevIx), s.attached = true →
    a.val = 2 * c.val → b.val = 2 * c.val + 1 →
    (∃ t, exec (.winPiaA c r₄ .read) s = .next t ∧ exec (piaReadInstr r₄ a) s = .next t) ∧
    (∃ t, exec (.winPiaA c r₄ (.write v)) s = .next t ∧ exec (piaWriteInstr r₄ a v) s = .next t) ∧
    (∃ t, exec (.winPiaB c r₄ .read) s = .next t ∧ exec (piaReadInstr r₄ b) s = .next t) ∧
    (∃ t, exec (.winPiaB c r₄ (.write v)) s = .next t ∧ exec (piaWriteInstr r₄ b v) s = .next t) ∧
    (∃ i t, speechReadInstr (r₂.setWidth 4) b = some i ∧ exec (.winSpeech03 c r₂ .read) s = .next t ∧
      exec i s = .next t) ∧
    (∃ i t, speechWriteInstr (r₂.setWidth 4) b v = some i ∧ exec (.winSpeech03 c r₂ (.write v)) s = .next t ∧
      exec i s = .next t) ∧
    (∃ t, exec (.winSpeech4 c .read) s = .next t ∧ exec (.srFilt b) s = .next t) ∧
    (∃ t, exec (.winSpeech4 c (.write v)) s = .next t ∧ exec (.swFilt b v) s = .next t)

/-! ## The whole machine -/

/-- Every operation with its operands in their declared domain completes on an attached block (00_scope.md R4; the domain
of a window offset is that of 30_encoding.md section 6). The model's own part of this: ATTACH completes on a block that is
already attached (log entry 16, DEDUCED), the PSG functions and the window ranges run alone (log entry 9), the ranges
complete in native mode too (log entry 10), and a snapshot is well-formed when it passes the type check of log entry 11. -/
def Obligations.EveryOperationInDomainCompletes : Prop :=
  ∀ (i : Instr) (s : State), s.attached = true → i.wellFormed = true →
    (∀ c off v, i = .busr c off ∨ i = .busw c off v →
      (s.blk.phasorEnable && s.blk.phasorMode) = true ∨ off.toNat ≤ 0x0F ∨
        (0x40 ≤ off.toNat ∧ off.toNat ≤ 0x44) ∨ (0x80 ≤ off.toNat ∧ off.toNat ≤ 0x8F)) →
      ∃ t, exec i s = .next t

/-- Contract violations of an operation's own operands are refused: a tick count above 0xFFFF, a card above 1, a snapshot
that does not type-check (60_exceptions.md section 2, decision D30; the check is log entry 11). -/
def Obligations.ContractViolationsRefused : Prop :=
  ∀ s : State, s.attached = true →
    (∀ n, n > 0xFFFF → exec (.tick n) s = .refused .tickCountOutOfRange) ∧
    (∀ c off : Byte, c.toNat > 1 → exec (.busr c off) s = .refused .noSuchCard) ∧
    (∀ c off v : Byte, c.toNat > 1 → exec (.busw c off v) s = .refused .noSuchCard) ∧
    (∀ S : Block, ¬S.Typed → exec (.snaprestore S) s = .refused .snapshotIllTyped)

/-- Where invariant SUMMARY holds, a register access to one device leaves every item of every other device unchanged
(10_state.md section 2). -/
def Obligations.RegisterAccessTouchesOneDevice : Prop :=
  ∀ (s t : State) (reg : BitVec 4) (d e : DevIx) (v : Byte) (i : Instr), s.Summary →
    (i = piaWriteInstr reg d v ∨ i = piaReadInstr reg d ∨ speechWriteInstr reg d v = some i ∨
      speechReadInstr reg d = some i) →
    exec i s = .next t → e ≠ d → t.dev e = s.dev e

/-- Where invariant SUMMARY holds, the PIA level is asserted exactly when some device has an enabled cause
(60_exceptions.md section 1). -/
def Obligations.PiaLevelIsAnyEnabledCause : Prop :=
  ∀ s : State, s.Summary →
    (s.blk.piaIrqLevel = true ↔ ∃ d, (s.dev d).ifr &&& (s.dev d).ier &&& 0x7F#8 ≠ 0#8)

/-- The parameters left open meet the spec's constraints: an injective chip numbering, distinct select bits, the two given
entries of the Votrax table (92_eei_decisions.md, 44_votrax.md section 1). -/
def Obligations.OpenParametersMeetConstraints : Prop :=
  (∀ (d e : DevIx) (k l : ChipIx), psgIndex d k = psgIndex e l → d = e ∧ k = l) ∧
    phSelFirstBit ≠ phSelSecondBit ∧ votraxTable 0x03#6 = 0x00#6 ∧ votraxTable 0x1D#6 = 0x25#6

/-- Two states that differ at most in the serial placeholders and the inflection, rate/inflection and filter-frequency
registers are told apart by no operation but SNAPSAVE: the outputs, the byte answered and every other item agree
(10_state.md section 2, 43_speech.md section 1, 40_pia_registers.md section 3, decision D31). -/
def Obligations.PlainStorageIsInvisible : Prop :=
  ∀ (i : Instr) (s s' t : State), i ≠ .snapsave → s.erasePlain = s'.erasePlain → exec i s = .next t →
    ∃ t', exec i s' = .next t' ∧ t.erasePlain = t'.erasePlain

/-- Over all operations but reset, attach, detach and restore: outside Phasor native mode the shadow registers of chip
(d, 1) of every device keep their bytes (10_state.md section 6, 42_psg_decoder.md section 2, decisions D15, D16). That
this holds for PSG.RESET and PSG.WRITE run alone too is the model's choice (log entry 9). -/
def Obligations.SecondChipKeptOutsideNativeMode : Prop :=
  ∀ (i : Instr) (s t : State) (d : DevIx) (r : BitVec 4), (s.blk.phasorEnable && s.blk.phasorMode) = false →
    exec i s = .next t → i ≠ .reset → i ≠ .detach → (∀ e m, i ≠ .attach e m) → (∀ S, i ≠ .snaprestore S) →
      (t.dev d).psgReg 1 r = (s.dev d).psgReg 1 r

/-- Over all operations but reset, attach, detach and restore: while a device is in speech-data mode the shadow registers of
its two chips and its latched index keep their values (70_reset_and_hazards.md section 3: R270, derived there for a port-B
write; 42_psg_decoder.md section 1: R160). That this holds for PSG.RESET, PSG.WRITE and PSG.LATCH run alone too is the
model's choice (log entry 9). -/
def Obligations.SpeechDataModeShieldsTheChips : Prop :=
  ∀ (i : Instr) (s t : State) (d : DevIx), (s.dev d).ddrb = 0xFF#8 → (s.dev d).pcr = 0xB0#8 →
    exec i s = .next t → i ≠ .reset → i ≠ .detach → (∀ e m, i ≠ .attach e m) → (∀ S, i ≠ .snaprestore S) →
      (∀ k r, (t.dev d).psgReg k r = (s.dev d).psgReg k r) ∧ (t.dev d).curReg = (s.dev d).curReg
end

