-- ==== Sys2Proof/Laws/Bits.lean ====
section
/-! SUPPORT. The bytes of a timer item. -/

namespace Sys2Proof.Machine

theorem getLsbD_joinBytes (hi lo : Byte) (i : Nat) :
    (joinBytes hi lo).getLsbD i = if i < 8 then lo.getLsbD i else hi.getLsbD (i - 8) := by
  unfold joinBytes
  rw [BitVec.getLsbD_append]

/-- Replacing the low byte, as a mask. -/
theorem withLow_eq (w : Half) (v : Byte) : withLow w v = (w &&& 0xFF00#16) ||| v.setWidth 16 := by
  apply BitVec.eq_of_getLsbD_eq
  intro i hi
  rw [withLow, getLsbD_joinBytes, highByte]
  interval_cases i <;> simp

/-- Replacing the high byte, as a mask. -/
theorem withHigh_eq (w : Half) (v : Byte) : withHigh w v = (v.setWidth 16 <<< 8) ||| (w &&& 0x00FF#16) := by
  apply BitVec.eq_of_getLsbD_eq
  intro i hi
  rw [withHigh, getLsbD_joinBytes, lowByte]
  interval_cases i <;> simp

theorem lowByte_eq (w : Half) : lowByte w = w.extractLsb' 0 8 := by
  apply BitVec.eq_of_getLsbD_eq
  intro i hi
  simp [lowByte, hi]

theorem highByte_eq (w : Half) : highByte w = w.extractLsb' 8 8 := by
  apply BitVec.eq_of_getLsbD_eq
  intro i hi
  simp [highByte, hi]

end Sys2Proof.Machine
end

