-- ==== Sys2Proof/Laws/Decode.lean ====
section
/-! SUPPORT. What the pieces of the decoder and the encoder do, said once. -/

namespace Sys2Proof

/-! ## Operand bytes -/

@[simp] theorem decodeDevice_devByte (d : DevIx) : decodeDevice (devByte d) = .ok d := by
  fin_cases d <;> rfl

theorem decodeDevice_of_lt {b : Byte} (h : b.toNat < 4) : decodeDevice b = .ok ⟨b.toNat, h⟩ := by
  unfold decodeDevice; rw [dif_pos h]

theorem decodeDevice_of_ge {b : Byte} (h : 4 ≤ b.toNat) : decodeDevice b = .error .deviceOutOfRange := by
  unfold decodeDevice; rw [dif_neg (by omega)]

@[simp] theorem decodeD_devByte (mk : DevIx → Instr) (d : DevIx) (rest : List Token) :
    decodeD mk (.byte (devByte d) :: rest) = .ok (mk d, rest) := by
  simp [decodeD, Except.map]

@[simp] theorem decodeDV_devByte (mk : DevIx → Byte → Instr) (d : DevIx) (v : Byte) (rest : List Token) :
    decodeDV mk (.byte (devByte d) :: .byte v :: rest) = .ok (mk d v, rest) := by
  simp [decodeDV, Except.map]

/-- Everything `decodeD` can accept: one byte, a device. -/
theorem decodeD_ok {mk : DevIx → Instr} {ts rest : List Token} {i : Instr} (h : decodeD mk ts = .ok (i, rest)) :
    ∃ b d, ts = .byte b :: rest ∧ decodeDevice b = .ok d ∧ i = mk d := by
  unfold decodeD at h
  split at h
  · rename_i b _
    cases hd : decodeDevice b <;> simp [hd, Except.map] at h
    exact ⟨b, _, by rw [h.2], hd, h.1.symm⟩
  · cases h

/-- Everything `decodeDV` can accept: a device and a data byte. -/
theorem decodeDV_ok {mk : DevIx → Byte → Instr} {ts rest : List Token} {i : Instr}
    (h : decodeDV mk ts = .ok (i, rest)) :
    ∃ b d v, ts = .byte b :: .byte v :: rest ∧ decodeDevice b = .ok d ∧ i = mk d v := by
  unfold decodeDV at h
  split at h
  · rename_i b v _
    cases hd : decodeDevice b <;> simp [hd, Except.map] at h
    exact ⟨b, _, v, by rw [h.2], hd, h.1.symm⟩
  · cases h

/-! ## The two second-level decodes -/

theorem psgInstr_reset (lo : BitVec 2) (d : DevIx) (k : ChipIx) : psgInstr (0#1 ++ lo) d k = .psgReset lo d k := by
  have h : ∀ lo : BitVec 2, (0#1 ++ lo).toNat < 4 ∧ (0#1 ++ lo).setWidth 2 = lo := by decide
  unfold psgInstr
  split <;> rename_i hh <;> first | (have := (h lo).1; omega) | rw [(h lo).2]

theorem windowInstr_piaA (c : CardIx) (r : BitVec 4) (a : Access) :
    windowInstr c (0x0#4 ++ r) a = some (.winPiaA c r a) := by
  have h : ∀ r : BitVec 4, (0x0#4 ++ r) &&& 0xF0#8 = 0x00#8 ∧ (0x0#4 ++ r).setWidth 4 = r := by decide
  unfold windowInstr
  rw [if_pos (h r).1, (h r).2]

theorem windowInstr_piaB (c : CardIx) (r : BitVec 4) (a : Access) :
    windowInstr c (0x8#4 ++ r) a = some (.winPiaB c r a) := by
  have h : ∀ r : BitVec 4, (0x8#4 ++ r) &&& 0xF0#8 = 0x80#8 ∧ (0x8#4 ++ r) &&& 0xFC#8 ≠ 0x40#8 ∧
    0x8#4 ++ r ≠ 0x44#8 ∧ (0x8#4 ++ r).setWidth 4 = r := by decide
  unfold windowInstr
  rw [(h r).1, if_neg (by decide), if_neg (h r).2.1, if_neg (h r).2.2.1, if_pos rfl, (h r).2.2.2]

theorem windowInstr_speech03 (c : CardIx) (r : BitVec 2) (a : Access) :
    windowInstr c (0b010000#6 ++ r) a = some (.winSpeech03 c r a) := by
  have h : ∀ r : BitVec 2, (0b010000#6 ++ r) &&& 0xF0#8 ≠ 0x00#8 ∧ (0b010000#6 ++ r) &&& 0xFC#8 = 0x40#8 ∧
    (0b010000#6 ++ r).setWidth 2 = r := by decide
  unfold windowInstr
  rw [if_neg (h r).1, if_pos (h r).2.1, (h r).2.2]

end Sys2Proof
end

