-- ==== Sys2Proof/Laws/State.lean ====
section
/-! SUPPORT. The small lemmas of the state: one per field per update. -/

namespace Sys2Proof.Machine

/-! ## Devices of a block -/

@[simp] theorem Block.dev_setDev_self (b : Block) (d : DevIx) (x : Device) : (b.setDev d x).dev d = x := by
  simp [Block.dev, Block.setDev]

@[simp] theorem Block.dev_setDev_of_ne (b : Block) (d e : DevIx) (x : Device) (h : e ≠ d) :
    (b.setDev d x).dev e = b.dev e := by
  have hv : d.val ≠ e.val := fun hv => h (Fin.ext hv.symm)
  simp [Block.dev, Block.setDev, hv]

theorem Block.dev_setDev (b : Block) (d e : DevIx) (x : Device) :
    (b.setDev d x).dev e = if e = d then x else b.dev e := by
  by_cases h : e = d
  · subst h; simp
  · simp [h]

@[simp] theorem Block.dev_mapDevs (b : Block) (f : Device → Device) (d : DevIx) : (b.mapDevs f).dev d = f (b.dev d) := by
  fin_cases d <;> rfl

@[simp] theorem Block.dev_zero (e m : Bool) (d : DevIx) : (Block.zero e m).dev d = Device.zero := by
  fin_cases d <;> rfl

@[simp] theorem Block.setDev_timerOwner (b : Block) (d x) : (b.setDev d x).timerOwner = b.timerOwner := rfl
@[simp] theorem Block.setDev_timerPeriod (b : Block) (d x) : (b.setDev d x).timerPeriod = b.timerPeriod := rfl
@[simp] theorem Block.setDev_phasorEnable (b : Block) (d x) : (b.setDev d x).phasorEnable = b.phasorEnable := rfl
@[simp] theorem Block.setDev_phasorMode (b : Block) (d x) : (b.setDev d x).phasorMode = b.phasorMode := rfl
@[simp] theorem Block.setDev_speechLine (b : Block) (d x) : (b.setDev d x).speechLine = b.speechLine := rfl
@[simp] theorem Block.setDev_activePhoneme (b : Block) (d x) : (b.setDev d x).activePhoneme = b.activePhoneme := rfl
@[simp] theorem Block.setDev_speechOwner (b : Block) (d x) : (b.setDev d x).speechOwner = b.speechOwner := rfl
@[simp] theorem Block.setDev_viaVotrax (b : Block) (d x) : (b.setDev d x).viaVotrax = b.viaVotrax := rfl
@[simp] theorem Block.setDev_nativeMode (b : Block) (d x) : (b.setDev d x).nativeMode = b.nativeMode := rfl

@[simp] theorem Block.mapDevs_timerOwner (b : Block) (f) : (b.mapDevs f).timerOwner = b.timerOwner := rfl
@[simp] theorem Block.mapDevs_timerPeriod (b : Block) (f) : (b.mapDevs f).timerPeriod = b.timerPeriod := rfl
@[simp] theorem Block.mapDevs_phasorEnable (b : Block) (f) : (b.mapDevs f).phasorEnable = b.phasorEnable := rfl
@[simp] theorem Block.mapDevs_phasorMode (b : Block) (f) : (b.mapDevs f).phasorMode = b.phasorMode := rfl
@[simp] theorem Block.mapDevs_speechLine (b : Block) (f) : (b.mapDevs f).speechLine = b.speechLine := rfl
@[simp] theorem Block.mapDevs_activePhoneme (b : Block) (f) : (b.mapDevs f).activePhoneme = b.activePhoneme := rfl
@[simp] theorem Block.mapDevs_speechOwner (b : Block) (f) : (b.mapDevs f).speechOwner = b.speechOwner := rfl
@[simp] theorem Block.mapDevs_viaVotrax (b : Block) (f) : (b.mapDevs f).viaVotrax = b.viaVotrax := rfl
@[simp] theorem Block.mapDevs_nativeMode (b : Block) (f) : (b.mapDevs f).nativeMode = b.nativeMode := rfl

/-- Two blocks with the same devices and the same globals are equal. -/
theorem Block.eq_of_devs {b c : Block} (hd : ∀ d, b.dev d = c.dev d) (ho : b.timerOwner = c.timerOwner)
    (hp : b.timerPeriod = c.timerPeriod) (he : b.phasorEnable = c.phasorEnable) (hm : b.phasorMode = c.phasorMode)
    (hl : b.speechLine = c.speechLine) (ha : b.activePhoneme = c.activePhoneme) (hs : b.speechOwner = c.speechOwner)
    (hv : b.viaVotrax = c.viaVotrax) : b = c := by
  obtain ⟨bd, _, _, _, _, _, _, _, _⟩ := b
  obtain ⟨cd, _, _, _, _, _, _, _, _⟩ := c
  have : bd = cd := Vector.ext fun i hi => hd ⟨i, hi⟩
  simp_all

/-! ## The shadow registers of a device -/

theorem Device.psgReg_setPsgReg (x : Device) (k k' : ChipIx) (r r' : BitVec 4) (v : Byte) :
    (x.setPsgReg k r v).psgReg k' r' = if k' = k ∧ r' = r then v else x.psgReg k' r' := by
  by_cases hk : k' = k
  · subst hk
    by_cases hr : r' = r
    · subst hr; simp [Device.psgReg, Device.setPsgReg]
    · have : r.toNat ≠ r'.toNat := fun h => hr (BitVec.eq_of_toNat_eq h.symm)
      simp [Device.psgReg, Device.setPsgReg, hr, this]
  · have : k.val ≠ k'.val := fun h => hk (Fin.ext h.symm)
    simp [Device.psgReg, Device.setPsgReg, hk, this]

theorem Device.psgReg_resetChip (x : Device) (k k' : ChipIx) (r : BitVec 4) :
    (x.resetChip k).psgReg k' r = if k' = k then 0#8 else x.psgReg k' r := by
  by_cases hk : k' = k
  · subst hk; simp [Device.psgReg, Device.resetChip, zeroChip]
  · have : k.val ≠ k'.val := fun h => hk (Fin.ext h.symm)
    simp [Device.psgReg, Device.resetChip, hk, this]

/-- Two devices with the same shadow registers and the same other items are equal. -/
theorem Device.psg_eq_of_psgReg {x y : Device} (h : ∀ k r, x.psgReg k r = y.psgReg k r) : x.psg = y.psg := by
  refine Vector.ext fun k hk => Vector.ext fun r hr => ?_
  have := h ⟨k, hk⟩ (BitVec.ofNat 4 r)
  simpa [Device.psgReg, Nat.mod_eq_of_lt (show r < 16 from hr)] using this

/-! ## The state under `modDev`, `emit` and `returns` -/

@[simp] theorem State.dev_modDev_self (s : State) (d : DevIx) (f) : (s.modDev d f).dev d = f (s.dev d) := by
  simp [State.modDev, State.dev]

@[simp] theorem State.dev_modDev_of_ne (s : State) (d e : DevIx) (f) (h : e ≠ d) : (s.modDev d f).dev e = s.dev e := by
  simp [State.modDev, State.dev, h]

theorem State.dev_modDev (s : State) (d e : DevIx) (f) :
    (s.modDev d f).dev e = if e = d then f (s.dev d) else s.dev e := by
  simp [State.modDev, State.dev, Block.dev_setDev]

@[simp] theorem State.modDev_timerOwner (s : State) (d f) : (s.modDev d f).blk.timerOwner = s.blk.timerOwner := rfl
@[simp] theorem State.modDev_timerPeriod (s : State) (d f) : (s.modDev d f).blk.timerPeriod = s.blk.timerPeriod := rfl
@[simp] theorem State.modDev_phasorEnable (s : State) (d f) : (s.modDev d f).blk.phasorEnable = s.blk.phasorEnable := rfl
@[simp] theorem State.modDev_phasorMode (s : State) (d f) : (s.modDev d f).blk.phasorMode = s.blk.phasorMode := rfl
@[simp] theorem State.modDev_speechLine (s : State) (d f) : (s.modDev d f).blk.speechLine = s.blk.speechLine := rfl
@[simp] theorem State.modDev_activePhoneme (s : State) (d f) :
    (s.modDev d f).blk.activePhoneme = s.blk.activePhoneme := rfl
@[simp] theorem State.modDev_speechOwner (s : State) (d f) : (s.modDev d f).blk.speechOwner = s.blk.speechOwner := rfl
@[simp] theorem State.modDev_viaVotrax (s : State) (d f) : (s.modDev d f).blk.viaVotrax = s.blk.viaVotrax := rfl
@[simp] theorem State.modDev_nativeMode (s : State) (d f) : (s.modDev d f).blk.nativeMode = s.blk.nativeMode := rfl
@[simp] theorem State.modDev_attached (s : State) (d f) : (s.modDev d f).attached = s.attached := rfl
@[simp] theorem State.modDev_params (s : State) (d f) : (s.modDev d f).params = s.params := rfl
@[simp] theorem State.modDev_freeCount (s : State) (d f) : (s.modDev d f).freeCount = s.freeCount := rfl
@[simp] theorem State.modDev_input (s : State) (d f) : (s.modDev d f).input = s.input := rfl
@[simp] theorem State.modDev_result (s : State) (d f) : (s.modDev d f).result = s.result := rfl
@[simp] theorem State.modDev_trace (s : State) (d f) : (s.modDev d f).trace = s.trace := rfl

@[simp] theorem State.emit_blk (s : State) (e) : (s.emit e).blk = s.blk := rfl
@[simp] theorem State.emit_dev (s : State) (e d) : (s.emit e).dev d = s.dev d := rfl
@[simp] theorem State.emit_attached (s : State) (e) : (s.emit e).attached = s.attached := rfl
@[simp] theorem State.emit_params (s : State) (e) : (s.emit e).params = s.params := rfl
@[simp] theorem State.emit_freeCount (s : State) (e) : (s.emit e).freeCount = s.freeCount := rfl
@[simp] theorem State.emit_input (s : State) (e) : (s.emit e).input = s.input := rfl
@[simp] theorem State.emit_result (s : State) (e) : (s.emit e).result = s.result := rfl
@[simp] theorem State.emit_trace (s : State) (e) : (s.emit e).trace = s.trace ++ [e] := rfl

@[simp] theorem State.returns_blk (s : State) (r) : (s.returns r).blk = s.blk := rfl
@[simp] theorem State.returns_dev (s : State) (r d) : (s.returns r).dev d = s.dev d := rfl
@[simp] theorem State.returns_attached (s : State) (r) : (s.returns r).attached = s.attached := rfl
@[simp] theorem State.returns_params (s : State) (r) : (s.returns r).params = s.params := rfl
@[simp] theorem State.returns_freeCount (s : State) (r) : (s.returns r).freeCount = s.freeCount := rfl
@[simp] theorem State.returns_input (s : State) (r) : (s.returns r).input = s.input := rfl
@[simp] theorem State.returns_result (s : State) (r) : (s.returns r).result = r := rfl
@[simp] theorem State.returns_trace (s : State) (r) : (s.returns r).trace = s.trace := rfl

/-- An operation that changes the items of one device alone. -/
theorem OnlyDevice.modDev (s : State) (d : DevIx) (f : Device → Device) (r : Option Result) :
    OnlyDevice s ((s.modDev d f).returns r) d (f (s.dev d)) r :=
  ⟨by simp, fun e he => by simp [he], ⟨⟨rfl, rfl⟩, ⟨rfl, rfl⟩, rfl, rfl, rfl, rfl⟩, ⟨rfl, rfl, rfl, rfl⟩, rfl, rfl⟩

/-- An operation that changes nothing but what it returns. -/
theorem NothingBut.returns (s : State) (r : Option Result) : NothingBut s (s.returns r) r :=
  ⟨rfl, ⟨rfl, rfl, rfl, rfl⟩, rfl, rfl⟩

/-! ## The normative outputs -/

@[simp] theorem State.outputs_modDev (s : State) (d f) : (s.modDev d f).outputs = s.outputs := rfl
@[simp] theorem State.outputs_returns (s : State) (r) : (s.returns r).outputs = s.outputs := rfl

theorem State.outputs_emit (s : State) (e : Event) :
    (s.emit e).outputs = s.outputs ++ if e.normative then [e] else [] := by
  cases h : e.normative <;> simp [State.outputs, List.filter_append, h]

@[simp] theorem piaIrqEvent_normative (l : Bool) : (piaIrqEvent l).normative = false := by cases l <;> rfl
@[simp] theorem speechIrqEvent_normative (l : Bool) : (speechIrqEvent l).normative = false := by cases l <;> rfl

/-! ## The last event of a source -/

@[simp] theorem lastTold_append (source : IrqSource) (trace : List Event) (e : Event) :
    lastTold source (trace ++ [e]) =
      if e = .assertHostIrq source then some true
      else if e = .deassertHostIrq source then some false else lastTold source trace := by
  simp [lastTold]

/-! ## The wrappers of a meaning -/

theorem whenAttached_of_attached {s : State} (h : s.attached = true) (k : State → Answer) : whenAttached s k = k s := by
  simp [whenAttached, h]

theorem whenAttached_of_detached {s : State} (h : s.attached = false) (k : State → Answer) :
    whenAttached s k = .refused .detached := by
  simp [whenAttached, h]

theorem performs_of_attached {s : State} (h : s.attached = true) (f : State → State) :
    performs f s = .next ((f s).returns none) := by
  simp [performs, whenAttached, h]

theorem answers_of_attached {s : State} (h : s.attached = true) (f : State → State × Byte) :
    answers f s = .next ((f s).1.returns (some (.byte (f s).2))) := by
  simp [answers, whenAttached, h]

theorem performs_of_detached {s : State} (h : s.attached = false) (f : State → State) :
    performs f s = .refused .detached := whenAttached_of_detached h _

theorem answers_of_detached {s : State} (h : s.attached = false) (f : State → State × Byte) :
    answers f s = .refused .detached := whenAttached_of_detached h _

/-- Everything a returning-nothing operation can do: it is refused on a detached block, else it runs. -/
theorem performs_next {f : State → State} {s t : State} (h : performs f s = .next t) :
    s.attached = true ∧ t = (f s).returns none := by
  cases ha : s.attached <;> simp_all [performs, whenAttached]

/-- Everything a read can do: it is refused on a detached block, else it answers its byte. -/
theorem answers_next {f : State → State × Byte} {s t : State} (h : answers f s = .next t) :
    s.attached = true ∧ t = (f s).1.returns (some (.byte (f s).2)) := by
  cases ha : s.attached <;> simp_all [answers, whenAttached]

/-- A read without a side effect: what it answers, and that it changes nothing. -/
theorem Reads.of_pure {i : Instr} {s : State} {b : Byte} (h : s.attached = true) (f : State → State × Byte)
    (hx : exec i s = answers f s) (hs : (f s).1 = s) (hb : (f s).2 = b) : Reads s i b := by
  refine ⟨_, hx.trans (answers_of_attached h f), ?_⟩
  rw [hs, hb]
  exact NothingBut.returns s _

end Sys2Proof.Machine
end

