-- ==== Sys2Proof/Laws/Flags.lean ====
section
/-! SUPPORT. What the interrupt aggregator and the two flag operations can do, said once. -/

namespace Sys2Proof.Machine

/-! ## One device's summary -/

@[simp] theorem Device.summarise_ier (x : Device) : x.summarise.ier = x.ier := rfl
@[simp] theorem Device.summarise_spCur (x : Device) : x.summarise.spCur = x.spCur := rfl
@[simp] theorem Device.summarise_spCtrl (x : Device) : x.summarise.spCtrl = x.spCtrl := rfl
@[simp] theorem Device.summarise_spDurPhon (x : Device) : x.summarise.spDurPhon = x.spDurPhon := rfl
@[simp] theorem Device.summarise_t1l (x : Device) : x.summarise.t1l = x.t1l := rfl

/-- The aggregator changes the IFR alone. -/
theorem Device.summarise_eq (x : Device) : x.summarise = { x with ifr := x.summarise.ifr } := rfl

/-- The aggregator keeps the cause bits. -/
@[simp] theorem Device.summarise_causes (x : Device) : x.summarise.ifr &&& 0x7F#8 = x.ifr &&& 0x7F#8 := by
  apply BitVec.eq_of_getLsbD_eq
  intro i hi
  simp only [Device.summarise]
  split <;> interval_cases i <;> simp [bitMask, summaryBit, causeMask]

theorem Device.summarise_getLsbD (x : Device) (i : Nat) (hi : i < 7) : x.summarise.ifr.getLsbD i = x.ifr.getLsbD i := by
  simp only [Device.summarise]
  split <;> interval_cases i <;> simp [bitMask, summaryBit, causeMask]

/-- The enabled causes do not depend on the summary bit. -/
theorem enabled_of_causes {a b : Byte} (h : a &&& 0x7F#8 = b &&& 0x7F#8) (e : Byte) :
    a &&& e &&& 0x7F#8 = b &&& e &&& 0x7F#8 := by
  rw [BitVec.and_assoc, BitVec.and_assoc, BitVec.and_comm e, ← BitVec.and_assoc, ← BitVec.and_assoc, h]

/-- The aggregator makes the summary bit right. -/
theorem Device.summarise_ok (x : Device) : x.summarise.SummaryOk := by
  have he := enabled_of_causes x.summarise_causes x.ier
  unfold Device.SummaryOk
  rw [Device.summarise_ier, he]
  by_cases h : x.ifr &&& x.ier &&& 0x7F#8 = 0#8 <;>
    simp [Device.summarise, causeMask, summaryBit, bitMask, h]

/-- Where the summary bit is right the aggregator changes nothing. -/
theorem Device.summarise_of_ok {x : Device} (h : x.SummaryOk) : x.summarise = x := by
  have key : x.summarise.ifr = x.ifr := by
    apply BitVec.eq_of_getLsbD_eq
    intro i hi
    rcases Nat.lt_or_ge i 7 with h7 | h7
    · exact x.summarise_getLsbD i h7
    · obtain rfl : i = 7 := by omega
      have ho := x.summarise_ok
      unfold Device.SummaryOk at h ho
      rw [Device.summarise_ier, enabled_of_causes x.summarise_causes] at ho
      exact Bool.eq_iff_iff.mpr (ho.trans h.symm)
  rw [x.summarise_eq, key]

/-- The aggregator run twice is the aggregator run once (60_exceptions.md R230). -/
theorem Device.summarise_summarise (x : Device) : x.summarise.summarise = x.summarise :=
  Device.summarise_of_ok x.summarise_ok

theorem sameButSummary_summarise (x : Device) : SameButSummary x x.summarise := ⟨rfl, x.summarise_causes⟩

/-! ## `Recompute` -/

@[simp] theorem recompute_dev (s : State) (d : DevIx) : (recompute s).dev d = (s.dev d).summarise := by
  simp [recompute, State.dev, Block.summarise]

theorem recompute_blk (s : State) : (recompute s).blk = s.blk.summarise := rfl
@[simp] theorem recompute_timerOwner (s : State) : (recompute s).blk.timerOwner = s.blk.timerOwner := rfl
@[simp] theorem recompute_timerPeriod (s : State) : (recompute s).blk.timerPeriod = s.blk.timerPeriod := rfl
@[simp] theorem recompute_phasorEnable (s : State) : (recompute s).blk.phasorEnable = s.blk.phasorEnable := rfl
@[simp] theorem recompute_phasorMode (s : State) : (recompute s).blk.phasorMode = s.blk.phasorMode := rfl
@[simp] theorem recompute_speechLine (s : State) : (recompute s).blk.speechLine = s.blk.speechLine := rfl
@[simp] theorem recompute_activePhoneme (s : State) : (recompute s).blk.activePhoneme = s.blk.activePhoneme := rfl
@[simp] theorem recompute_speechOwner (s : State) : (recompute s).blk.speechOwner = s.blk.speechOwner := rfl
@[simp] theorem recompute_viaVotrax (s : State) : (recompute s).blk.viaVotrax = s.blk.viaVotrax := rfl
@[simp] theorem recompute_nativeMode (s : State) : (recompute s).blk.nativeMode = s.blk.nativeMode := rfl
@[simp] theorem recompute_attached (s : State) : (recompute s).attached = s.attached := rfl
@[simp] theorem recompute_params (s : State) : (recompute s).params = s.params := rfl
@[simp] theorem recompute_freeCount (s : State) : (recompute s).freeCount = s.freeCount := rfl
@[simp] theorem recompute_input (s : State) : (recompute s).input = s.input := rfl
@[simp] theorem recompute_result (s : State) : (recompute s).result = s.result := rfl

@[simp] theorem recompute_trace (s : State) :
    (recompute s).trace = s.trace ++ [piaIrqEvent (recompute s).blk.piaIrqLevel] := rfl

@[simp] theorem recompute_outputs (s : State) : (recompute s).outputs = s.outputs := by
  simp [State.outputs, List.filter_append]

/-- After the aggregator every summary bit is right, whatever it was before (60_exceptions.md R230). -/
theorem recompute_summary (s : State) : (recompute s).Summary := fun d => by
  rw [recompute_dev]; exact (s.dev d).summarise_ok

/-- The PIA level is the OR of the four summary bits (10_state.md R28). -/
theorem piaIrqLevel_iff (b : Block) : b.piaIrqLevel = true ↔ ∃ d, (b.dev d).ifr.getLsbD 7 = true := by
  constructor
  · intro h
    simp only [Block.piaIrqLevel, Bool.or_eq_true] at h
    rcases h with ((h | h) | h) | h
    exacts [⟨0, h⟩, ⟨1, h⟩, ⟨2, h⟩, ⟨3, h⟩]
  · rintro ⟨d, h⟩
    fin_cases d <;> simp_all [Block.piaIrqLevel, summaryBit]

/-- The level depends on the summary bits alone. -/
theorem piaIrqLevel_congr {b c : Block} (h : ∀ d, (b.dev d).ifr.getLsbD 7 = (c.dev d).ifr.getLsbD 7) :
    b.piaIrqLevel = c.piaIrqLevel := by
  rw [Bool.eq_iff_iff, piaIrqLevel_iff, piaIrqLevel_iff]
  exact exists_congr fun d => by rw [h d]

/-! ## `ClearFlags` and `SetFlags`: everything they can do -/

/-- A device changed and the summaries recomputed: the one lemma of every operation that changes flags or enables. -/
theorem recompute_modDev_flags (s : State) (d : DevIx) (f : Device → Device) :
    FlagsBecome s (recompute (s.modDev d f)) d (f (s.dev d)) ((f (s.dev d)).ifr &&& 0x7F#8) := by
  refine ⟨?_, ?_, ?_, recompute_summary _⟩
  · rw [recompute_dev, State.dev_modDev_self]; rfl
  · rw [recompute_dev, State.dev_modDev_self, Device.summarise_causes]
  · intro e he
    rw [recompute_dev, State.dev_modDev_of_ne _ _ _ _ he]
    exact sameButSummary_summarise _

theorem and_not_causes (a m : Byte) : (a &&& ~~~(m &&& causeMask)) &&& 0x7F#8 = a &&& ~~~m &&& 0x7F#8 := by
  apply BitVec.eq_of_getLsbD_eq
  intro i hi
  interval_cases i <;> simp [causeMask]

theorem or_causes (a m : Byte) : (a ||| (m &&& causeMask)) &&& 0x7F#8 = (a ||| m) &&& 0x7F#8 := by
  apply BitVec.eq_of_getLsbD_eq
  intro i hi
  interval_cases i <;> simp [causeMask]

/-- `ClearFlags(d, m)` clears the cause bits of `m` in device `d` and recomputes (40_pia_registers.md R101). -/
theorem clearFlags_flags (d : DevIx) (m : Byte) (s : State) :
    FlagsBecome s (clearFlags d m s) d (s.dev d) ((s.dev d).ifr &&& ~~~m &&& 0x7F#8) := by
  have h := recompute_modDev_flags s d fun x => { x with ifr := x.ifr &&& ~~~(m &&& causeMask) }
  rw [and_not_causes] at h
  exact h

/-- `SetFlags(d, m)` sets the cause bits of `m` in device `d` and recomputes (40_pia_registers.md R101). -/
theorem setFlags_flags (d : DevIx) (m : Byte) (s : State) :
    FlagsBecome s (setFlags d m s) d (s.dev d) (((s.dev d).ifr ||| m) &&& 0x7F#8) := by
  have h := recompute_modDev_flags s d fun x => { x with ifr := x.ifr ||| (m &&& causeMask) }
  rw [or_causes] at h
  exact h

@[simp] theorem clearFlags_dev (d e : DevIx) (m : Byte) (s : State) :
    (clearFlags d m s).dev e =
      ((s.modDev d fun x => { x with ifr := x.ifr &&& ~~~(m &&& causeMask) }).dev e).summarise := recompute_dev _ _

@[simp] theorem setFlags_dev (d e : DevIx) (m : Byte) (s : State) :
    (setFlags d m s).dev e =
      ((s.modDev d fun x => { x with ifr := x.ifr ||| (m &&& causeMask) }).dev e).summarise := recompute_dev _ _

theorem clearFlags_globals (d : DevIx) (m : Byte) (s : State) : GlobalsKept s (clearFlags d m s) :=
  ⟨⟨rfl, rfl⟩, ⟨rfl, rfl⟩, rfl, rfl, rfl, rfl⟩

theorem setFlags_globals (d : DevIx) (m : Byte) (s : State) : GlobalsKept s (setFlags d m s) :=
  ⟨⟨rfl, rfl⟩, ⟨rfl, rfl⟩, rfl, rfl, rfl, rfl⟩

theorem clearFlags_model (d : DevIx) (m : Byte) (s : State) : ModelKept s (clearFlags d m s) :=
  ⟨rfl, rfl, rfl, rfl⟩

theorem setFlags_model (d : DevIx) (m : Byte) (s : State) : ModelKept s (setFlags d m s) :=
  ⟨rfl, rfl, rfl, rfl⟩

@[simp] theorem clearFlags_outputs (d : DevIx) (m : Byte) (s : State) : (clearFlags d m s).outputs = s.outputs := by
  simp [clearFlags]

@[simp] theorem setFlags_outputs (d : DevIx) (m : Byte) (s : State) : (setFlags d m s).outputs = s.outputs := by
  simp [setFlags]

theorem clearFlags_summary (d : DevIx) (m : Byte) (s : State) : (clearFlags d m s).Summary := recompute_summary _

theorem setFlags_summary (d : DevIx) (m : Byte) (s : State) : (setFlags d m s).Summary := recompute_summary _

@[simp] theorem clearFlags_timerOwner (d : DevIx) (m : Byte) (s : State) :
    (clearFlags d m s).blk.timerOwner = s.blk.timerOwner := rfl
@[simp] theorem clearFlags_timerPeriod (d : DevIx) (m : Byte) (s : State) :
    (clearFlags d m s).blk.timerPeriod = s.blk.timerPeriod := rfl
@[simp] theorem clearFlags_phasorEnable (d : DevIx) (m : Byte) (s : State) :
    (clearFlags d m s).blk.phasorEnable = s.blk.phasorEnable := rfl
@[simp] theorem clearFlags_phasorMode (d : DevIx) (m : Byte) (s : State) :
    (clearFlags d m s).blk.phasorMode = s.blk.phasorMode := rfl
@[simp] theorem clearFlags_speechLine (d : DevIx) (m : Byte) (s : State) :
    (clearFlags d m s).blk.speechLine = s.blk.speechLine := rfl
@[simp] theorem clearFlags_activePhoneme (d : DevIx) (m : Byte) (s : State) :
    (clearFlags d m s).blk.activePhoneme = s.blk.activePhoneme := rfl
@[simp] theorem clearFlags_speechOwner (d : DevIx) (m : Byte) (s : State) :
    (clearFlags d m s).blk.speechOwner = s.blk.speechOwner := rfl
@[simp] theorem clearFlags_viaVotrax (d : DevIx) (m : Byte) (s : State) :
    (clearFlags d m s).blk.viaVotrax = s.blk.viaVotrax := rfl
@[simp] theorem clearFlags_nativeMode (d : DevIx) (m : Byte) (s : State) :
    (clearFlags d m s).blk.nativeMode = s.blk.nativeMode := rfl
@[simp] theorem clearFlags_attached (d : DevIx) (m : Byte) (s : State) :
    (clearFlags d m s).attached = s.attached := rfl
@[simp] theorem clearFlags_params (d : DevIx) (m : Byte) (s : State) :
    (clearFlags d m s).params = s.params := rfl
@[simp] theorem clearFlags_freeCount (d : DevIx) (m : Byte) (s : State) :
    (clearFlags d m s).freeCount = s.freeCount := rfl
@[simp] theorem clearFlags_input (d : DevIx) (m : Byte) (s : State) :
    (clearFlags d m s).input = s.input := rfl
@[simp] theorem clearFlags_result (d : DevIx) (m : Byte) (s : State) :
    (clearFlags d m s).result = s.result := rfl
@[simp] theorem clearFlags_trace (d : DevIx) (m : Byte) (s : State) :
    (clearFlags d m s).trace = s.trace ++ [piaIrqEvent (clearFlags d m s).blk.piaIrqLevel] := rfl
@[simp] theorem setFlags_timerOwner (d : DevIx) (m : Byte) (s : State) :
    (setFlags d m s).blk.timerOwner = s.blk.timerOwner := rfl
@[simp] theorem setFlags_timerPeriod (d : DevIx) (m : Byte) (s : State) :
    (setFlags d m s).blk.timerPeriod = s.blk.timerPeriod := rfl
@[simp] theorem setFlags_phasorEnable (d : DevIx) (m : Byte) (s : State) :
    (setFlags d m s).blk.phasorEnable = s.blk.phasorEnable := rfl
@[simp] theorem setFlags_phasorMode (d : DevIx) (m : Byte) (s : State) :
    (setFlags d m s).blk.phasorMode = s.blk.phasorMode := rfl
@[simp] theorem setFlags_speechLine (d : DevIx) (m : Byte) (s : State) :
    (setFlags d m s).blk.speechLine = s.blk.speechLine := rfl
@[simp] theorem setFlags_activePhoneme (d : DevIx) (m : Byte) (s : State) :
    (setFlags d m s).blk.activePhoneme = s.blk.activePhoneme := rfl
@[simp] theorem setFlags_speechOwner (d : DevIx) (m : Byte) (s : State) :
    (setFlags d m s).blk.speechOwner = s.blk.speechOwner := rfl
@[simp] theorem setFlags_viaVotrax (d : DevIx) (m : Byte) (s : State) :
    (setFlags d m s).blk.viaVotrax = s.blk.viaVotrax := rfl
@[simp] theorem setFlags_nativeMode (d : DevIx) (m : Byte) (s : State) :
    (setFlags d m s).blk.nativeMode = s.blk.nativeMode := rfl
@[simp] theorem setFlags_attached (d : DevIx) (m : Byte) (s : State) :
    (setFlags d m s).attached = s.attached := rfl
@[simp] theorem setFlags_params (d : DevIx) (m : Byte) (s : State) :
    (setFlags d m s).params = s.params := rfl
@[simp] theorem setFlags_freeCount (d : DevIx) (m : Byte) (s : State) :
    (setFlags d m s).freeCount = s.freeCount := rfl
@[simp] theorem setFlags_input (d : DevIx) (m : Byte) (s : State) :
    (setFlags d m s).input = s.input := rfl
@[simp] theorem setFlags_result (d : DevIx) (m : Byte) (s : State) :
    (setFlags d m s).result = s.result := rfl
@[simp] theorem setFlags_trace (d : DevIx) (m : Byte) (s : State) :
    (setFlags d m s).trace = s.trace ++ [piaIrqEvent (setFlags d m s).blk.piaIrqLevel] := rfl

theorem and_not_and_causes (a m : Byte) : a &&& ~~~m &&& 0x7F#8 = a &&& 0x7F#8 &&& ~~~m := by
  rw [BitVec.and_assoc, BitVec.and_assoc, BitVec.and_comm (~~~m)]


/-- Items other than the IFR changed and then flags cleared: every operation that writes a register and clears flags. -/
theorem FlagsBecome.modDev_clearFlags (s : State) (d : DevIx) (f : Device → Device) (m : Byte)
    (hf : ∀ x, (f x).ifr = x.ifr) :
   FlagsBecome s (clearFlags d m (s.modDev d f)) d (f (s.dev d)) ((s.dev d).ifr &&& ~~~m &&& 0x7F#8) := by
  have h := clearFlags_flags d m (s.modDev d f)
  obtain ⟨a, b, c, e⟩ := h
  rw [State.dev_modDev_self] at a b
  rw [hf] at b
  refine ⟨a, b, fun e he => ?_, e⟩
  have := c e he
  rw [State.dev_modDev_of_ne _ _ _ _ he] at this
  exact this

/-- Speech-data mode, in the spec's terms (42_psg_decoder.md R160). -/
theorem speechDataMode_iff (x : Device) : x.speechDataMode = true ↔ x.ddrb = 0xFF#8 ∧ x.pcr = 0xB0#8 := by
  simp [Device.speechDataMode, votraxDdrb, votraxPcr]

end Sys2Proof.Machine
end

