-- ==== Sys2Proof/Laws/PerInstr.lean ====
section
/-! SUPPORT. One lemma per operation: its encoding begins with a token that decides what follows it. -/

namespace Sys2Proof.Laws.FirstToken

/-- The encoding of `i` begins with a selector byte, bit 7 of which is 0, or with a token of a second-level decode that
stands alone; it takes at most four tokens (30_encoding.md R60, R75). -/
def Statement (i : Instr) : Prop :=
  (encode i).length ≤ 4 ∧
    ∃ t rest, encode i = t :: rest ∧
      match t with
      | .byte b => b.getLsbD 7 = false
      | .snapshot _ => False
      | .psgFn _ _ _ => rest = []
      | .window _ _ _ => rest = []

theorem wOrb (d : DevIx) (v : Byte) : Statement (.wOrb d v) :=
  ⟨Nat.le_of_ble_eq_true rfl, _, _, rfl, rfl⟩
theorem wOra (d : DevIx) (v : Byte) : Statement (.wOra d v) :=
  ⟨Nat.le_of_ble_eq_true rfl, _, _, rfl, rfl⟩
theorem wDdrb (d : DevIx) (v : Byte) : Statement (.wDdrb d v) :=
  ⟨Nat.le_of_ble_eq_true rfl, _, _, rfl, rfl⟩
theorem wDdra (d : DevIx) (v : Byte) : Statement (.wDdra d v) :=
  ⟨Nat.le_of_ble_eq_true rfl, _, _, rfl, rfl⟩
theorem wT1cl (d : DevIx) (v : Byte) : Statement (.wT1cl d v) :=
  ⟨Nat.le_of_ble_eq_true rfl, _, _, rfl, rfl⟩
theorem wT1ch (d : DevIx) (v : Byte) : Statement (.wT1ch d v) :=
  ⟨Nat.le_of_ble_eq_true rfl, _, _, rfl, rfl⟩
theorem wT1ll (d : DevIx) (v : Byte) : Statement (.wT1ll d v) :=
  ⟨Nat.le_of_ble_eq_true rfl, _, _, rfl, rfl⟩
theorem wT1lh (d : DevIx) (v : Byte) : Statement (.wT1lh d v) :=
  ⟨Nat.le_of_ble_eq_true rfl, _, _, rfl, rfl⟩
theorem wT2l (d : DevIx) (v : Byte) : Statement (.wT2l d v) :=
  ⟨Nat.le_of_ble_eq_true rfl, _, _, rfl, rfl⟩
theorem wT2h (d : DevIx) (v : Byte) : Statement (.wT2h d v) :=
  ⟨Nat.le_of_ble_eq_true rfl, _, _, rfl, rfl⟩
theorem wSr (d : DevIx) (v : Byte) : Statement (.wSr d v) :=
  ⟨Nat.le_of_ble_eq_true rfl, _, _, rfl, rfl⟩
theorem wAcr (d : DevIx) (v : Byte) : Statement (.wAcr d v) :=
  ⟨Nat.le_of_ble_eq_true rfl, _, _, rfl, rfl⟩
theorem wPcr (d : DevIx) (v : Byte) : Statement (.wPcr d v) :=
  ⟨Nat.le_of_ble_eq_true rfl, _, _, rfl, rfl⟩
theorem wIfr (d : DevIx) (v : Byte) : Statement (.wIfr d v) :=
  ⟨Nat.le_of_ble_eq_true rfl, _, _, rfl, rfl⟩
theorem wIer (d : DevIx) (v : Byte) : Statement (.wIer d v) :=
  ⟨Nat.le_of_ble_eq_true rfl, _, _, rfl, rfl⟩
theorem wOran (d : DevIx) (v : Byte) : Statement (.wOran d v) :=
  ⟨Nat.le_of_ble_eq_true rfl, _, _, rfl, rfl⟩
theorem rOrb (d : DevIx) : Statement (.rOrb d) :=
  ⟨Nat.le_of_ble_eq_true rfl, _, _, rfl, rfl⟩
theorem rOra (d : DevIx) : Statement (.rOra d) :=
  ⟨Nat.le_of_ble_eq_true rfl, _, _, rfl, rfl⟩
theorem rDdrb (d : DevIx) : Statement (.rDdrb d) :=
  ⟨Nat.le_of_ble_eq_true rfl, _, _, rfl, rfl⟩
theorem rDdra (d : DevIx) : Statement (.rDdra d) :=
  ⟨Nat.le_of_ble_eq_true rfl, _, _, rfl, rfl⟩
theorem rT1cl (d : DevIx) : Statement (.rT1cl d) :=
  ⟨Nat.le_of_ble_eq_true rfl, _, _, rfl, rfl⟩
theorem rT1ch (d : DevIx) : Statement (.rT1ch d) :=
  ⟨Nat.le_of_ble_eq_true rfl, _, _, rfl, rfl⟩
theorem rT1ll (d : DevIx) : Statement (.rT1ll d) :=
  ⟨Nat.le_of_ble_eq_true rfl, _, _, rfl, rfl⟩
theorem rT1lh (d : DevIx) : Statement (.rT1lh d) :=
  ⟨Nat.le_of_ble_eq_true rfl, _, _, rfl, rfl⟩
theorem rT2l (d : DevIx) : Statement (.rT2l d) :=
  ⟨Nat.le_of_ble_eq_true rfl, _, _, rfl, rfl⟩
theorem rT2h (d : DevIx) : Statement (.rT2h d) :=
  ⟨Nat.le_of_ble_eq_true rfl, _, _, rfl, rfl⟩
theorem rSr (d : DevIx) : Statement (.rSr d) :=
  ⟨Nat.le_of_ble_eq_true rfl, _, _, rfl, rfl⟩
theorem rAcr (d : DevIx) : Statement (.rAcr d) :=
  ⟨Nat.le_of_ble_eq_true rfl, _, _, rfl, rfl⟩
theorem rPcr (d : DevIx) : Statement (.rPcr d) :=
  ⟨Nat.le_of_ble_eq_true rfl, _, _, rfl, rfl⟩
theorem rIfr (d : DevIx) : Statement (.rIfr d) :=
  ⟨Nat.le_of_ble_eq_true rfl, _, _, rfl, rfl⟩
theorem rIer (d : DevIx) : Statement (.rIer d) :=
  ⟨Nat.le_of_ble_eq_true rfl, _, _, rfl, rfl⟩
theorem rOran (d : DevIx) : Statement (.rOran d) :=
  ⟨Nat.le_of_ble_eq_true rfl, _, _, rfl, rfl⟩
theorem swDurphon (d : DevIx) (v : Byte) : Statement (.swDurphon d v) :=
  ⟨Nat.le_of_ble_eq_true rfl, _, _, rfl, rfl⟩
theorem swInflect (d : DevIx) (v : Byte) : Statement (.swInflect d v) :=
  ⟨Nat.le_of_ble_eq_true rfl, _, _, rfl, rfl⟩
theorem swRateinf (d : DevIx) (v : Byte) : Statement (.swRateinf d v) :=
  ⟨Nat.le_of_ble_eq_true rfl, _, _, rfl, rfl⟩
theorem swCtrl (d : DevIx) (v : Byte) : Statement (.swCtrl d v) :=
  ⟨Nat.le_of_ble_eq_true rfl, _, _, rfl, rfl⟩
theorem swFilt (d : DevIx) (v : Byte) : Statement (.swFilt d v) :=
  ⟨Nat.le_of_ble_eq_true rfl, _, _, rfl, rfl⟩
theorem srDurphon (d : DevIx) : Statement (.srDurphon d) :=
  ⟨Nat.le_of_ble_eq_true rfl, _, _, rfl, rfl⟩
theorem srInflect (d : DevIx) : Statement (.srInflect d) :=
  ⟨Nat.le_of_ble_eq_true rfl, _, _, rfl, rfl⟩
theorem srRateinf (d : DevIx) : Statement (.srRateinf d) :=
  ⟨Nat.le_of_ble_eq_true rfl, _, _, rfl, rfl⟩
theorem srCtrl (d : DevIx) : Statement (.srCtrl d) :=
  ⟨Nat.le_of_ble_eq_true rfl, _, _, rfl, rfl⟩
theorem srFilt (d : DevIx) : Statement (.srFilt d) :=
  ⟨Nat.le_of_ble_eq_true rfl, _, _, rfl, rfl⟩
theorem tick (n : Nat) : Statement (.tick n) :=
  ⟨Nat.le_of_ble_eq_true rfl, _, _, rfl, rfl⟩
theorem done : Statement (.done) :=
  ⟨Nat.le_of_ble_eq_true rfl, _, _, rfl, rfl⟩
theorem reset : Statement (.reset) :=
  ⟨Nat.le_of_ble_eq_true rfl, _, _, rfl, rfl⟩
theorem config (e m : Bool) : Statement (.config e m) :=
  ⟨Nat.le_of_ble_eq_true rfl, _, _, rfl, rfl⟩
theorem attach (e m : Bool) : Statement (.attach e m) :=
  ⟨Nat.le_of_ble_eq_true rfl, _, _, rfl, rfl⟩
theorem detach : Statement (.detach) :=
  ⟨Nat.le_of_ble_eq_true rfl, _, _, rfl, rfl⟩
theorem snapsave : Statement (.snapsave) :=
  ⟨Nat.le_of_ble_eq_true rfl, _, _, rfl, rfl⟩
theorem snaprestore (S : Machine.Block) : Statement (.snaprestore S) :=
  ⟨Nat.le_of_ble_eq_true rfl, _, _, rfl, rfl⟩
theorem busr (c off : Byte) : Statement (.busr c off) :=
  ⟨Nat.le_of_ble_eq_true rfl, _, _, rfl, rfl⟩
theorem busw (c off v : Byte) : Statement (.busw c off v) :=
  ⟨Nat.le_of_ble_eq_true rfl, _, _, rfl, rfl⟩
theorem psgReset (lo : BitVec 2) (d : DevIx) (k : ChipIx) : Statement (.psgReset lo d k) :=
  ⟨Nat.le_of_ble_eq_true rfl, _, _, rfl, rfl⟩
theorem psgInactive (d : DevIx) (k : ChipIx) : Statement (.psgInactive d k) :=
  ⟨Nat.le_of_ble_eq_true rfl, _, _, rfl, rfl⟩
theorem psgRead (d : DevIx) (k : ChipIx) : Statement (.psgRead d k) :=
  ⟨Nat.le_of_ble_eq_true rfl, _, _, rfl, rfl⟩
theorem psgWrite (d : DevIx) (k : ChipIx) : Statement (.psgWrite d k) :=
  ⟨Nat.le_of_ble_eq_true rfl, _, _, rfl, rfl⟩
theorem psgLatch (d : DevIx) (k : ChipIx) : Statement (.psgLatch d k) :=
  ⟨Nat.le_of_ble_eq_true rfl, _, _, rfl, rfl⟩
theorem winPiaA (c : CardIx) (reg : BitVec 4) (a : Access) : Statement (.winPiaA c reg a) :=
  ⟨Nat.le_of_ble_eq_true rfl, _, _, rfl, rfl⟩
theorem winSpeech03 (c : CardIx) (reg : BitVec 2) (a : Access) : Statement (.winSpeech03 c reg a) :=
  ⟨Nat.le_of_ble_eq_true rfl, _, _, rfl, rfl⟩
theorem winSpeech4 (c : CardIx) (a : Access) : Statement (.winSpeech4 c a) :=
  ⟨Nat.le_of_ble_eq_true rfl, _, _, rfl, rfl⟩
theorem winPiaB (c : CardIx) (reg : BitVec 4) (a : Access) : Statement (.winPiaB c reg a) :=
  ⟨Nat.le_of_ble_eq_true rfl, _, _, rfl, rfl⟩

end Sys2Proof.Laws.FirstToken
end

