-- ==== Sys2Proof/Laws/Psg.lean ====
section
/-! SUPPORT. What the sound-generator decoder can do, said once. -/

namespace Sys2Proof.Machine

/-- What the sound-generator decoder leaves unchanged in a call for device `d` (42_psg_decoder.md section 2). -/
structure PsgFrame (d : DevIx) (s t : State) : Prop where
  others : OthersKept s t d
  globals : GlobalsKept s t
  model : ModelKept s t
  items : t.dev d = { s.dev d with curReg := (t.dev d).curReg, psg := (t.dev d).psg }
  result : t.result = s.result
  told : ∀ source, lastTold source t.trace = lastTold source s.trace

theorem PsgFrame.refl (d : DevIx) (s : State) : PsgFrame d s s :=
  ⟨fun _ _ => rfl, ⟨⟨rfl, rfl⟩, ⟨rfl, rfl⟩, rfl, rfl, rfl, rfl⟩, ⟨rfl, rfl, rfl, rfl⟩, rfl, rfl, fun _ => rfl⟩

theorem PsgFrame.trans {d : DevIx} {s t u : State} (h : PsgFrame d s t) (h' : PsgFrame d t u) : PsgFrame d s u where
  others e he := (h'.others e he).trans (h.others e he)
  globals := by
    obtain ⟨⟨a, b⟩, ⟨c, d⟩, e, f, g, i⟩ := h.globals
    obtain ⟨⟨a', b'⟩, ⟨c', d'⟩, e', f', g', i'⟩ := h'.globals
    exact ⟨⟨a'.trans a, b'.trans b⟩, ⟨c'.trans c, d'.trans d⟩, e'.trans e, f'.trans f, g'.trans g, i'.trans i⟩
  model := by
    obtain ⟨a, b, c, d⟩ := h.model
    obtain ⟨a', b', c', d'⟩ := h'.model
    exact ⟨a'.trans a, b'.trans b, c'.trans c, d'.trans d⟩
  items := by
    have h₁ := h.items
    have h₂ := h'.items
    rw [h₁] at h₂
    exact h₂
  result := h'.result.trans h.result
  told source := (h'.told source).trans (h.told source)

/-! ## The functions -/

@[simp] theorem psgResetChip_dev (d e : DevIx) (k : ChipIx) (s : State) :
    (psgResetChip d k s).dev e = if e = d then (s.dev d).resetChip k else s.dev e := by
  simp [psgResetChip, State.dev_modDev]

@[simp] theorem psgResetChip_outputs (d : DevIx) (k : ChipIx) (s : State) :
    (psgResetChip d k s).outputs = s.outputs ++ [.soundGeneratorReset (psgIndex d k)] := by
  simp [psgResetChip, State.outputs_emit, Event.normative]

theorem psgResetChip_frame (d : DevIx) (k : ChipIx) (s : State) : PsgFrame d s (psgResetChip d k s) :=
  ⟨fun e he => by simp [he], ⟨⟨rfl, rfl⟩, ⟨rfl, rfl⟩, rfl, rfl, rfl, rfl⟩, ⟨rfl, rfl, rfl, rfl⟩,
    by simp [Device.resetChip], rfl, fun _ => by simp [psgResetChip]⟩

@[simp] theorem psgWriteChip_dev (d e : DevIx) (k : ChipIx) (s : State) :
    (psgWriteChip d k s).dev e =
      if e = d then (s.dev d).setPsgReg k (s.dev d).curReg (s.dev d).ora else s.dev e := by
  simp [psgWriteChip, State.dev_modDev]

@[simp] theorem psgWriteChip_outputs (d : DevIx) (k : ChipIx) (s : State) :
    (psgWriteChip d k s).outputs =
      s.outputs ++ [.soundGeneratorWrite (psgIndex d k) (s.dev d).curReg (s.dev d).ora] := by
  simp [psgWriteChip, State.outputs_emit, Event.normative]

theorem psgWriteChip_frame (d : DevIx) (k : ChipIx) (s : State) : PsgFrame d s (psgWriteChip d k s) :=
  ⟨fun e he => by simp [he], ⟨⟨rfl, rfl⟩, ⟨rfl, rfl⟩, rfl, rfl, rfl, rfl⟩, ⟨rfl, rfl, rfl, rfl⟩,
    by simp [Device.setPsgReg], rfl, fun _ => by simp [psgWriteChip]⟩

/-- The latched index after a latch (42_psg_decoder.md R167). -/
def latchedReg (x : Device) : BitVec 4 := if x.ora.toNat ≤ 15 then x.ora.setWidth 4 else x.curReg

theorem psgLatchReg_dev (d e : DevIx) (s : State) :
    (psgLatchReg d s).dev e = if e = d then { s.dev d with curReg := latchedReg (s.dev d) } else s.dev e := by
  by_cases h : (s.dev d).ora.toNat ≤ 15
  · simp [psgLatchReg, latchLimit, latchedReg, h, State.dev_modDev]
  · by_cases he : e = d
    · subst he; simp [psgLatchReg, latchLimit, latchedReg, h]
    · simp [psgLatchReg, latchLimit, h, he]

@[simp] theorem psgLatchReg_trace (d : DevIx) (s : State) : (psgLatchReg d s).trace = s.trace := by
  unfold psgLatchReg; split <;> rfl

@[simp] theorem psgLatchReg_outputs (d : DevIx) (s : State) : (psgLatchReg d s).outputs = s.outputs := by
  simp [State.outputs]

theorem psgLatchReg_frame (d : DevIx) (s : State) : PsgFrame d s (psgLatchReg d s) := by
  refine ⟨fun e he => by simp [psgLatchReg_dev, he], ?_, ?_, by simp [psgLatchReg_dev], ?_, fun _ => by simp⟩ <;>
    unfold psgLatchReg <;> split
  exacts [⟨⟨rfl, rfl⟩, ⟨rfl, rfl⟩, rfl, rfl, rfl, rfl⟩, ⟨⟨rfl, rfl⟩, ⟨rfl, rfl⟩, rfl, rfl, rfl, rfl⟩,
    ⟨rfl, rfl, rfl, rfl⟩, ⟨rfl, rfl, rfl, rfl⟩, rfl, rfl]

/-! ## One chip, and the selected chips -/

/-- The function a control word selects, by its low three bits as a number (30_encoding.md R64). -/
theorem psgFnOf_eq (cw : Byte) :
    psgFnOf cw =
      if cw.toNat % 8 < 4 then .reset
      else if cw.toNat % 8 = 4 then .inactive
      else if cw.toNat % 8 = 5 then .read
      else if cw.toNat % 8 = 6 then .write
      else .latch := by
  revert cw; decide

theorem psgFunc_frame (d : DevIx) (k : ChipIx) (cw : Byte) (s : State) : PsgFrame d s (psgFunc d k cw s) := by
  unfold psgFunc
  split
  exacts [psgResetChip_frame d k s, PsgFrame.refl d s, PsgFrame.refl d s, psgWriteChip_frame d k s,
    psgLatchReg_frame d s]

/-- The shadow registers after one chip's function (42_psg_decoder.md R163 to R166). -/
theorem psgFunc_psgReg (d : DevIx) (k k' : ChipIx) (r : BitVec 4) (cw : Byte) (s : State) :
    ((psgFunc d k cw s).dev d).psgReg k' r =
      if k' = k ∧ cw.toNat % 8 < 4 then 0#8
      else if k' = k ∧ cw.toNat % 8 = 6 ∧ r = (s.dev d).curReg then (s.dev d).ora
      else (s.dev d).psgReg k' r := by
  unfold psgFunc
  rw [psgFnOf_eq]
  by_cases h4 : cw.toNat % 8 < 4
  · have : cw.toNat % 8 ≠ 6 := by omega
    simp [h4, this, Device.psgReg_resetChip]
  · by_cases h6 : cw.toNat % 8 = 6
    · simp [h6, Device.psgReg_setPsgReg]
    · simp only [h4, h6, if_false, and_false, false_and]
      have : ∀ (x : Device) c, ({ x with curReg := c } : Device).psgReg k' r = x.psgReg k' r := fun _ _ => rfl
      split_ifs <;> simp [psgNothing, psgLatchReg_dev, this]

/-- The latched index after one chip's function (42_psg_decoder.md R167). -/
theorem psgFunc_curReg (d : DevIx) (k : ChipIx) (cw : Byte) (s : State) :
    ((psgFunc d k cw s).dev d).curReg = if cw.toNat % 8 = 7 then latchedReg (s.dev d) else (s.dev d).curReg := by
  unfold psgFunc
  rw [psgFnOf_eq]
  by_cases h7 : cw.toNat % 8 = 7
  · simp [h7, psgLatchReg_dev]
  · have : cw.toNat % 8 < 4 ∨ cw.toNat % 8 = 4 ∨ cw.toNat % 8 = 5 ∨ cw.toNat % 8 = 6 := by omega
    rcases this with h | h | h | h <;> simp [h, h7, psgNothing, Device.resetChip, Device.setPsgReg]

/-- The output of one chip's function (42_psg_decoder.md R164, R166). -/
theorem psgFunc_outputs (d : DevIx) (k : ChipIx) (cw : Byte) (s : State) :
    (psgFunc d k cw s).outputs = s.outputs ++ (if cw.toNat % 8 < 4 then [.soundGeneratorReset (psgIndex d k)]
          else if cw.toNat % 8 = 6 then [.soundGeneratorWrite (psgIndex d k) (s.dev d).curReg (s.dev d).ora]
          else []) := by
  unfold psgFunc
  rw [psgFnOf_eq]
  by_cases h4 : cw.toNat % 8 < 4
  · simp [h4]
  · by_cases h6 : cw.toNat % 8 = 6
    · simp [h6]
    · simp only [h4, h6, if_false]
      split_ifs <;> simp [psgNothing]

@[simp] theorem psgFunc_ora (d : DevIx) (k : ChipIx) (cw : Byte) (s : State) :
    ((psgFunc d k cw s).dev d).ora = (s.dev d).ora := by
  rw [(psgFunc_frame d k cw s).items]

/-- Bit `k` of the chip select: chip 0 alone, or in native mode the chips whose select bit is 0 (42_psg_decoder.md R162). -/
theorem chipSelect_eq (n : Bool) (cw : Byte) (k : ChipIx) :
    (chipSelect n cw).getLsbD k.val = if n then !cw.getLsbD (3 + k.val) else k.val == 0 := by
  cases n <;> fin_cases k <;> simp [chipSelect, phasorCsLo]

/-- A chip is reached exactly when some control word selects it (10_state.md R26, 42_psg_decoder.md R162). -/
theorem chipReached_iff (n : Bool) (k : ChipIx) :
    chipReached n k = true ↔ ∃ cw : Byte, (chipSelect n cw).getLsbD k.val = true := by
  simp only [chipSelect_eq]
  cases n
  · simp [chipReached]
  · simp only [chipReached, Bool.true_or, if_true, true_iff]
    exact ⟨0#8, by simp⟩

@[simp] theorem chipReached_first (n : Bool) : chipReached n 0 = true := by cases n <;> rfl

@[simp] theorem chipReached_native (k : ChipIx) : chipReached true k = true := rfl

@[simp] theorem chipReached_second (n : Bool) : chipReached n 1 = n := by cases n <;> rfl

/-- All that a function run alone can do: run where its chip is reached, change nothing elsewhere. -/
theorem onReachedChip_cases (k : ChipIx) (f : State → State) (s : State) :
    chipReached s.blk.nativeMode k = true ∧ onReachedChip k f s = f s ∨
      chipReached s.blk.nativeMode k = false ∧ onReachedChip k f s = s := by
  cases h : chipReached s.blk.nativeMode k <;> simp [onReachedChip, h]

/-- All that a function run alone can do by the route: run in sound-generator-control mode, change nothing elsewhere. -/
theorem inDecoder_cases (d : DevIx) (f : State → State) (s : State) :
    (s.dev d).speechDataMode = false ∧ inDecoder d f s = f s ∨
      (s.dev d).speechDataMode = true ∧ inDecoder d f s = s := by
  cases h : (s.dev d).speechDataMode <;> simp [inDecoder, h]

/-- Outside native mode a control word leaves the second chip's shadow registers as they are (10_state.md R26). -/
theorem psgDecode_second (d e : DevIx) (r : BitVec 4) (cw : Byte) (s : State) (h : s.blk.nativeMode = false) :
    ((psgDecode d cw s).dev e).psgReg 1 r = (s.dev e).psgReg 1 r := by
  have : psgDecode d cw s = psgFunc d 0 cw s := by simp [psgDecode, h, chipSelect]
  rw [this]
  by_cases he : e = d
  · subst he; simp [psgFunc_psgReg]
  · rw [(psgFunc_frame d 0 cw s).others e he]

theorem psgDecode_frame (d : DevIx) (cw : Byte) (s : State) : PsgFrame d s (psgDecode d cw s) := by
  unfold psgDecode
  dsimp only
  split <;> split
  exacts [(psgFunc_frame d 0 cw s).trans (psgFunc_frame d 1 cw _), psgFunc_frame d 1 cw s, psgFunc_frame d 0 cw s,
    PsgFrame.refl d s]

end Sys2Proof.Machine
end

