-- ==== Sys2Proof/Laws/Speech.lean ====
section
/-! SUPPORT. What the speech controller and the Votrax translator can do, said once. -/

namespace Sys2Proof.Machine

/-! ## The level of the speech source -/

@[simp] theorem setSpeechLine_dev (l : Bool) (s : State) (d : DevIx) : (setSpeechLine l s).dev d = s.dev d := rfl
@[simp] theorem setSpeechLine_speechLine (l : Bool) (s : State) : (setSpeechLine l s).blk.speechLine = l := rfl
@[simp] theorem setSpeechLine_timerOwner (l : Bool) (s : State) :
    (setSpeechLine l s).blk.timerOwner = s.blk.timerOwner := rfl
@[simp] theorem setSpeechLine_timerPeriod (l : Bool) (s : State) :
    (setSpeechLine l s).blk.timerPeriod = s.blk.timerPeriod := rfl
@[simp] theorem setSpeechLine_phasorEnable (l : Bool) (s : State) :
    (setSpeechLine l s).blk.phasorEnable = s.blk.phasorEnable := rfl
@[simp] theorem setSpeechLine_phasorMode (l : Bool) (s : State) :
    (setSpeechLine l s).blk.phasorMode = s.blk.phasorMode := rfl
@[simp] theorem setSpeechLine_activePhoneme (l : Bool) (s : State) :
    (setSpeechLine l s).blk.activePhoneme = s.blk.activePhoneme := rfl
@[simp] theorem setSpeechLine_speechOwner (l : Bool) (s : State) :
    (setSpeechLine l s).blk.speechOwner = s.blk.speechOwner := rfl
@[simp] theorem setSpeechLine_viaVotrax (l : Bool) (s : State) :
    (setSpeechLine l s).blk.viaVotrax = s.blk.viaVotrax := rfl
@[simp] theorem setSpeechLine_attached (l : Bool) (s : State) : (setSpeechLine l s).attached = s.attached := rfl
@[simp] theorem setSpeechLine_params (l : Bool) (s : State) : (setSpeechLine l s).params = s.params := rfl
@[simp] theorem setSpeechLine_freeCount (l : Bool) (s : State) : (setSpeechLine l s).freeCount = s.freeCount := rfl
@[simp] theorem setSpeechLine_input (l : Bool) (s : State) : (setSpeechLine l s).input = s.input := rfl
@[simp] theorem setSpeechLine_result (l : Bool) (s : State) : (setSpeechLine l s).result = s.result := rfl
@[simp] theorem setSpeechLine_trace (l : Bool) (s : State) :
    (setSpeechLine l s).trace = s.trace ++ [speechIrqEvent l] := rfl
@[simp] theorem setSpeechLine_outputs (l : Bool) (s : State) : (setSpeechLine l s).outputs = s.outputs := by
  simp [State.outputs, List.filter_append]

/-! ## Dispatch of a phoneme (43_speech.md R190) -/

@[simp] theorem play_dev (d : DevIx) (c : Phoneme) (v : Bool) (s : State) (e : DevIx) :
    (play d c v s).dev e = s.dev e := rfl
@[simp] theorem play_activePhoneme (d : DevIx) (c : Phoneme) (v : Bool) (s : State) :
    (play d c v s).blk.activePhoneme = some c := rfl
@[simp] theorem play_speechOwner (d : DevIx) (c : Phoneme) (v : Bool) (s : State) :
    (play d c v s).blk.speechOwner = some d := rfl
@[simp] theorem play_viaVotrax (d : DevIx) (c : Phoneme) (v : Bool) (s : State) :
    (play d c v s).blk.viaVotrax = v := rfl
@[simp] theorem play_timerOwner (d : DevIx) (c : Phoneme) (v : Bool) (s : State) :
    (play d c v s).blk.timerOwner = s.blk.timerOwner := rfl
@[simp] theorem play_timerPeriod (d : DevIx) (c : Phoneme) (v : Bool) (s : State) :
    (play d c v s).blk.timerPeriod = s.blk.timerPeriod := rfl
@[simp] theorem play_phasorEnable (d : DevIx) (c : Phoneme) (v : Bool) (s : State) :
    (play d c v s).blk.phasorEnable = s.blk.phasorEnable := rfl
@[simp] theorem play_phasorMode (d : DevIx) (c : Phoneme) (v : Bool) (s : State) :
    (play d c v s).blk.phasorMode = s.blk.phasorMode := rfl
@[simp] theorem play_attached (d : DevIx) (c : Phoneme) (v : Bool) (s : State) :
    (play d c v s).attached = s.attached := rfl
@[simp] theorem play_params (d : DevIx) (c : Phoneme) (v : Bool) (s : State) : (play d c v s).params = s.params := rfl
@[simp] theorem play_freeCount (d : DevIx) (c : Phoneme) (v : Bool) (s : State) :
    (play d c v s).freeCount = s.freeCount := rfl
@[simp] theorem play_input (d : DevIx) (c : Phoneme) (v : Bool) (s : State) : (play d c v s).input = s.input := rfl
@[simp] theorem play_result (d : DevIx) (c : Phoneme) (v : Bool) (s : State) : (play d c v s).result = s.result := rfl
@[simp] theorem play_speechLine (d : DevIx) (c : Phoneme) (v : Bool) (s : State) :
    (play d c v s).blk.speechLine = s.blk.speechLine := rfl
@[simp] theorem play_trace (d : DevIx) (c : Phoneme) (v : Bool) (s : State) :
    (play d c v s).trace = s.trace ++ [.playPhoneme c] := rfl
@[simp] theorem play_outputs (d : DevIx) (c : Phoneme) (v : Bool) (s : State) :
    (play d c v s).outputs = s.outputs ++ [.playPhoneme c] := by
  simp [State.outputs, List.filter_append, Event.normative]

theorem play_plays (d : DevIx) (c : Phoneme) (v : Bool) (s : State) : Plays s (play d c v s) d c v :=
  ⟨play_outputs d c v s, rfl, rfl, rfl⟩

/-! ## The condition cleared by a write of duration/phoneme (43_speech.md R180) -/

theorem clearSpeechCondition_disabled {s : State} (h : s.blk.phasorEnable = false) (d : DevIx) :
    clearSpeechCondition d s =
      (clearFlags d (periphMask s.params) s).modDev d fun x => { x with spCur := x.spCur &&& ~~~(bitMask 0) } := by
  unfold clearSpeechCondition; rw [h]; rfl

theorem clearSpeechCondition_enabled {s : State} (h : s.blk.phasorEnable = true) (d : DevIx) :
    clearSpeechCondition d s =
      (setSpeechLine false s).modDev d fun x => { x with spCur := x.spCur &&& ~~~(bitMask 0) } := by
  unfold clearSpeechCondition; rw [h]; rfl

/-- A phoneme is suppressed only with Phasor enabled and code 0 (43_speech.md R180). -/
theorem suppressed_eq (v : Byte) (s : State) :
    suppressed (phonemeOf v) s =
      (s.blk.phasorEnable && decide (v &&& 0x3F#8 = 0#8) &&
        (s.blk.activePhoneme.isSome || s.params.phasorZeroSuppressAlways)) := by
  have h : ∀ v : Byte, (phonemeOf v == 0#6) = decide (v &&& 0x3F#8 = 0#8) := by decide
  rw [suppressed, h]

/-! ## The mode latch (43_speech.md R183, R186) -/

/-- The current-mode byte after `Relatch`. -/
theorem relatch_dev (d e : DevIx) (s : State) :
    (relatch d s).dev e =
      if e = d then
        { s.dev d with spCur :=
            if s.params.relatchClearsPin then (s.dev d).spDurPhon &&& 0xC0#8
            else ((s.dev d).spCur &&& 0x3F#8) ||| ((s.dev d).spDurPhon &&& 0xC0#8) }
      else s.dev e := State.dev_modDev _ _ _ _

/-- The write of control on a 1-to-0 edge of bit 7. -/
theorem writeCtrl_edge {s : State} {d : DevIx} {v : Byte} (h : (s.dev d).spCtrl.getLsbD 7 = true)
    (hv : v.getLsbD 7 = false) :
    writeCtrl d v s = (relatch d s).modDev d fun x => { x with spCtrl := v } := by
  unfold writeCtrl; simp only [ctlBit, h, hv]; rfl

/-- The write of control without such an edge. -/
theorem writeCtrl_no_edge {s : State} {d : DevIx} {v : Byte}
    (h : ¬((s.dev d).spCtrl.getLsbD 7 = true ∧ v.getLsbD 7 = false)) :
    writeCtrl d v s = s.modDev d fun x => { x with spCtrl := v } := by
  unfold writeCtrl
  rw [if_neg]
  simp only [ctlBit, Bool.and_eq_true, Bool.not_eq_true']
  exact h

/-- The byte of a speech read: the pin in bit 7 (43_speech.md R185). -/
theorem pinByte_eq (c : Byte) : (c &&& bitMask 0) <<< 7 = if c.getLsbD 0 then 0x80#8 else 0x00#8 := by
  revert c; decide

/-! ## Completion (43_speech.md R191) -/

theorem completionDevice_of_owner {s : State} {d : DevIx} (h : s.blk.speechOwner = some d) :
    completionDevice s = (d, s) := by
  unfold completionDevice; rw [h]

/-- With no owner the device is the free value and the count of free values advances (log entry 12). -/
theorem completionDevice_of_none {s : State} (h : s.blk.speechOwner = none) :
    completionDevice s = (Config.freeOwner s.freeCount, { s with freeCount := s.freeCount + 1 }) := by
  unfold completionDevice; rw [h]

theorem completeNative_disabled_mode {s : State} {d : DevIx} (h : (s.dev d).spCur &&& 0xC0#8 = 0#8) :
    completeNative d s = s := by
  unfold completeNative; rw [if_pos h]

theorem completeNative_phasor {s : State} {d : DevIx} (h : (s.dev d).spCur &&& 0xC0#8 ≠ 0#8)
    (he : s.blk.phasorEnable = true) :
    completeNative d s = setSpeechLine true (s.modDev d fun x => { x with spCur := x.spCur ||| bitMask 0 }) := by
  unfold completeNative
  rw [if_neg h]
  exact if_pos he

theorem completeNative_classic {s : State} {d : DevIx} (h : (s.dev d).spCur &&& 0xC0#8 ≠ 0#8)
    (he : s.blk.phasorEnable = false) :
    completeNative d s =
      setFlags d (periphMask s.params) (s.modDev d fun x => { x with spCur := x.spCur ||| bitMask 0 }) := by
  unfold completeNative
  rw [if_neg h]
  refine if_neg ?_
  rw [State.modDev_phasorEnable, he]
  decide

theorem phonemeDone_idle {s : State} (h : s.blk.activePhoneme = none) : phonemeDone s = s := by
  unfold phonemeDone; rw [h]

end Sys2Proof.Machine
end

