-- ==== Sys2Proof/Laws/Step.lean ====
section
/-! SUPPORT. Everything a step can do, said once. -/

namespace Sys2Proof.Machine

/-- Everything a completed step can be: nothing was issued and nothing changed, or the next issued operation ran with its
tokens taken off the input. -/
theorem step_next {s t : State} (h : step s = .next t) :
    s.input = [] ∧ t = s ∨
      ∃ i rest, decode s.input = .ok (i, rest) ∧ exec i { s with input := rest } = .next t := by
  unfold step fetch at h
  cases hi : s.input with
  | nil =>
    rw [hi] at h
    simp only [Host.Outcome.next.injEq] at h
    exact .inl ⟨rfl, h.symm⟩
  | cons a ts =>
    rw [hi] at h
    refine .inr ?_
    cases hd : decode (a :: ts) with
    | error e => simp only [hd] at h; cases h
    | ok p => simp only [hd] at h; exact ⟨p.1, p.2, rfl, h⟩

/-- A step never faults: the block has no synchronous exception (60_exceptions.md R240). -/
theorem step_ne_fault (s : State) (e : Fault) : step s ≠ .fault e := nomatch e

end Sys2Proof.Machine
end

