-- ==== Sys2Proof/Laws/System.lean ====
section
/-! SUPPORT. What reset, attach and restore leave, said once. -/

namespace Sys2Proof.Machine

/-- The aggregator changes nothing in a block at its reset values. -/
@[simp] theorem Block.summarise_zero (e m : Bool) : (Block.zero e m).summarise = Block.zero e m :=
  Block.eq_of_devs
    (fun d => by rw [Block.summarise, Block.dev_mapDevs, Block.dev_zero]; exact Device.summarise_of_ok (by decide))
    rfl rfl rfl rfl rfl rfl rfl rfl

theorem Device.zero_allZero : Device.zero.AllZero := ⟨rfl, by decide⟩

/-- The block that reset and attach make is at its reset values (10_state.md R32). -/
theorem Block.zero_atReset (e m : Bool) : (Block.zero e m).AtReset e m :=
  ⟨fun d => by rw [Block.dev_zero]; exact Device.zero_allZero, rfl, rfl, rfl, rfl, rfl, rfl, rfl, rfl⟩

@[simp] theorem Block.zero_piaIrqLevel (e m : Bool) : (Block.zero e m).piaIrqLevel = false := by
  simp [Block.piaIrqLevel, Device.zero]

@[simp] theorem resetBlock_blk (s : State) :
    (resetBlock s).blk = Block.zero s.blk.phasorEnable s.blk.phasorMode := by
  simp [resetBlock, recompute_blk]

@[simp] theorem resetBlock_outputs (s : State) :
    (resetBlock s).outputs = s.outputs ++ allChips.map fun c => .soundGeneratorReset (psgIndex c.1 c.2) := by
  rw [resetBlock, State.outputs_emit, recompute_outputs]
  simp [State.outputs, List.filter_append]
  rfl

@[simp] theorem attachBlock_blk (e m : Bool) (s : State) : (attachBlock e m s).blk = Block.zero e m := by
  simp [attachBlock, recompute_blk]

@[simp] theorem attachBlock_outputs (e m : Bool) (s : State) : (attachBlock e m s).outputs = s.outputs := by
  rw [attachBlock, State.outputs_emit, recompute_outputs]
  simp [State.outputs, Event.normative]

@[simp] theorem restoreBlock_blk (S : Block) (s : State) : (restoreBlock S s).blk = S.summarise := rfl

@[simp] theorem restoreBlock_outputs (S : Block) (s : State) : (restoreBlock S s).outputs = s.outputs := by
  simp [restoreBlock, State.outputs, List.filter_append]

/-- The type check of a snapshot says what `Block.Typed` says. -/
theorem Block.typeOk_iff (b : Block) : b.typeOk = true ↔ b.Typed := by
  unfold Block.typeOk Block.Typed isA
  cases b.timerOwner <;> simp

/-- The aggregator changes nothing in a block whose summary bits are right. -/
theorem Block.summarise_of_ok {b : Block} (h : ∀ d, (b.dev d).SummaryOk) : b.summarise = b :=
  Block.eq_of_devs (fun d => by rw [Block.summarise, Block.dev_mapDevs, Device.summarise_of_ok (h d)])
    rfl rfl rfl rfl rfl rfl rfl rfl

end Sys2Proof.Machine
end

