-- ==== Sys2Proof/Laws/Timer.lean ====
section
/-! SUPPORT. What arming, stopping and the tick can do, said once. -/

namespace Sys2Proof.Machine

/-! ## `Arm` and `Stop`: only the owner and the period can change -/

@[simp] theorem arm_dev (d e : DevIx) (s : State) : (arm d s).dev e = s.dev e := by unfold arm; split <;> rfl
@[simp] theorem arm_phasorEnable (d : DevIx) (s : State) : (arm d s).blk.phasorEnable = s.blk.phasorEnable := by
  unfold arm; split <;> rfl
@[simp] theorem arm_phasorMode (d : DevIx) (s : State) : (arm d s).blk.phasorMode = s.blk.phasorMode := by
  unfold arm; split <;> rfl
@[simp] theorem arm_speechLine (d : DevIx) (s : State) : (arm d s).blk.speechLine = s.blk.speechLine := by
  unfold arm; split <;> rfl
@[simp] theorem arm_activePhoneme (d : DevIx) (s : State) : (arm d s).blk.activePhoneme = s.blk.activePhoneme := by
  unfold arm; split <;> rfl
@[simp] theorem arm_speechOwner (d : DevIx) (s : State) : (arm d s).blk.speechOwner = s.blk.speechOwner := by
  unfold arm; split <;> rfl
@[simp] theorem arm_viaVotrax (d : DevIx) (s : State) : (arm d s).blk.viaVotrax = s.blk.viaVotrax := by
  unfold arm; split <;> rfl
@[simp] theorem arm_attached (d : DevIx) (s : State) : (arm d s).attached = s.attached := by unfold arm; split <;> rfl
@[simp] theorem arm_params (d : DevIx) (s : State) : (arm d s).params = s.params := by unfold arm; split <;> rfl
@[simp] theorem arm_freeCount (d : DevIx) (s : State) : (arm d s).freeCount = s.freeCount := by unfold arm; split <;> rfl
@[simp] theorem arm_input (d : DevIx) (s : State) : (arm d s).input = s.input := by unfold arm; split <;> rfl
@[simp] theorem arm_result (d : DevIx) (s : State) : (arm d s).result = s.result := by unfold arm; split <;> rfl
@[simp] theorem arm_trace (d : DevIx) (s : State) : (arm d s).trace = s.trace := by unfold arm; split <;> rfl

theorem arm_timerOwner (d : DevIx) (s : State) :
    (arm d s).blk.timerOwner =
      if isA d && (s.dev d).ier.getLsbD t1Bit then some d else s.blk.timerOwner := by
  unfold arm; split <;> rfl

theorem arm_timerPeriod (d : DevIx) (s : State) :
    (arm d s).blk.timerPeriod =
      if isA d && (s.dev d).ier.getLsbD t1Bit then (s.dev d).t1l else s.blk.timerPeriod := by
  unfold arm; split <;> rfl

@[simp] theorem stop_dev (d e : DevIx) (s : State) : (stop d s).dev e = s.dev e := by unfold stop; split <;> rfl
@[simp] theorem stop_timerPeriod (d : DevIx) (s : State) : (stop d s).blk.timerPeriod = s.blk.timerPeriod := by
  unfold stop; split <;> rfl
@[simp] theorem stop_phasorEnable (d : DevIx) (s : State) : (stop d s).blk.phasorEnable = s.blk.phasorEnable := by
  unfold stop; split <;> rfl
@[simp] theorem stop_phasorMode (d : DevIx) (s : State) : (stop d s).blk.phasorMode = s.blk.phasorMode := by
  unfold stop; split <;> rfl
@[simp] theorem stop_speechLine (d : DevIx) (s : State) : (stop d s).blk.speechLine = s.blk.speechLine := by
  unfold stop; split <;> rfl
@[simp] theorem stop_activePhoneme (d : DevIx) (s : State) : (stop d s).blk.activePhoneme = s.blk.activePhoneme := by
  unfold stop; split <;> rfl
@[simp] theorem stop_speechOwner (d : DevIx) (s : State) : (stop d s).blk.speechOwner = s.blk.speechOwner := by
  unfold stop; split <;> rfl
@[simp] theorem stop_viaVotrax (d : DevIx) (s : State) : (stop d s).blk.viaVotrax = s.blk.viaVotrax := by
  unfold stop; split <;> rfl
@[simp] theorem stop_attached (d : DevIx) (s : State) : (stop d s).attached = s.attached := by unfold stop; split <;> rfl
@[simp] theorem stop_params (d : DevIx) (s : State) : (stop d s).params = s.params := by unfold stop; split <;> rfl
@[simp] theorem stop_freeCount (d : DevIx) (s : State) : (stop d s).freeCount = s.freeCount := by
  unfold stop; split <;> rfl
@[simp] theorem stop_input (d : DevIx) (s : State) : (stop d s).input = s.input := by unfold stop; split <;> rfl
@[simp] theorem stop_result (d : DevIx) (s : State) : (stop d s).result = s.result := by unfold stop; split <;> rfl
@[simp] theorem stop_trace (d : DevIx) (s : State) : (stop d s).trace = s.trace := by unfold stop; split <;> rfl

theorem stop_timerOwner (d : DevIx) (s : State) :
    (stop d s).blk.timerOwner = if s.blk.timerOwner = some d then none else s.blk.timerOwner := by
  unfold stop; split <;> rfl

/-- The levels do not see the timer slot. -/
theorem arm_piaIrqLevel (d : DevIx) (s : State) : (arm d s).blk.piaIrqLevel = s.blk.piaIrqLevel :=
  piaIrqLevel_congr fun e => congrArg (fun x : Device => x.ifr.getLsbD 7) (arm_dev d e s)

theorem stop_piaIrqLevel (d : DevIx) (s : State) : (stop d s).blk.piaIrqLevel = s.blk.piaIrqLevel :=
  piaIrqLevel_congr fun e => congrArg (fun x : Device => x.ifr.getLsbD 7) (stop_dev d e s)

/-! ## One device's tick -/

/-- Timer 1 of device `d` passes below zero in a tick of `n`, and the device owns the timer slot. -/
def under1 (s : State) (n : Half) (d : DevIx) : Bool :=
  decide (s.blk.timerOwner = some d) && decide (n.toNat > (s.dev d).t1c.toNat)

/-- Timer 2 of device `d` is started and passes below zero in a tick of `n`. -/
def under2 (s : State) (n : Half) (d : DevIx) : Bool :=
  (s.dev d).t2Armed && decide (n.toNat > (s.dev d).t2c.toNat)

/-- The items of device `d` after its part of a tick of `n` (41_timer_engine.md R143, R144). -/
def ticked (s : State) (n : Half) (d : DevIx) : Device :=
  { s.dev d with
    t1c := if under1 s n d && (s.dev d).acr.getLsbD 6 then (s.dev d).t1l else (s.dev d).t1c - n
    t2c := (s.dev d).t2c - n
    t2Armed := (s.dev d).t2Armed && !under2 s n d
    ifr := (s.dev d).ifr ||| (if under1 s n d then 0x40#8 else 0#8) ||| (if under2 s n d then 0x20#8 else 0#8) }

/-- What a tick leaves unchanged, whichever flags it sets. -/
def TickFrame (s t : State) : Prop :=
  PhasorKept s t ∧ t.blk.speechLine = s.blk.speechLine ∧ PhonemeKept s t ∧ ModelKept s t ∧
    t.trace = s.trace ∧ t.result = s.result

theorem TickFrame.refl (s : State) : TickFrame s s := ⟨⟨rfl, rfl⟩, rfl, ⟨rfl, rfl, rfl⟩, ⟨rfl, rfl, rfl, rfl⟩, rfl, rfl⟩

theorem TickFrame.trans {s t u : State} (h : TickFrame s t) (h' : TickFrame t u) : TickFrame s u := by
  obtain ⟨⟨a, b⟩, c, ⟨d, e, f⟩, ⟨g, i, j, k⟩, l, m⟩ := h
  obtain ⟨⟨a', b'⟩, c', ⟨d', e', f'⟩, ⟨g', i', j', k'⟩, l', m'⟩ := h'
  exact ⟨⟨a'.trans a, b'.trans b⟩, c'.trans c, ⟨d'.trans d, e'.trans e, f'.trans f⟩,
    ⟨g'.trans g, i'.trans i, j'.trans j, k'.trans k⟩, l'.trans l, m'.trans m⟩

theorem t1Mask : bitMask t1Bit = 0x40#8 := rfl
theorem t2Mask : bitMask t2Bit = 0x20#8 := rfl

/-- Everything timer 1 of one device can do in a tick (41_timer_engine.md R143). -/
theorem tick1_spec (d : DevIx) (n : Half) (s : State) :
    (tick1 d n s).1.dev d = { s.dev d with
        t1c := if under1 s n d && (s.dev d).acr.getLsbD 6 then (s.dev d).t1l else (s.dev d).t1c - n
        ifr := (s.dev d).ifr ||| if under1 s n d then 0x40#8 else 0#8 } ∧
      OthersKept s (tick1 d n s).1 d ∧ (tick1 d n s).2 = under1 s n d ∧
      (tick1 d n s).1.blk.timerOwner =
        (if under1 s n d && !(s.dev d).acr.getLsbD 6 then none else s.blk.timerOwner) ∧
      (tick1 d n s).1.blk.timerPeriod =
        (if under1 s n d && (s.dev d).acr.getLsbD 6 && (isA d && (s.dev d).ier.getLsbD 6) then (s.dev d).t1l
          else s.blk.timerPeriod) ∧
      TickFrame s (tick1 d n s).1 := by
  unfold tick1
  by_cases h : n.toNat > (s.dev d).t1c.toNat ∧ s.blk.timerOwner = some d
  · have hu : under1 s n d = true := by simp [under1, h.1, h.2]
    simp only [if_pos h, hu]
    by_cases ha : (s.dev d).acr.getLsbD 6 = true
    · have hr : (s.dev d).acr.getLsbD runModeBit = true := ha
      simp only [hr, ha, if_true]
      refine ⟨by simp [t1Mask], fun e he => by simp [he], by simp, ?_, ?_, ?_⟩
      · simp [arm_timerOwner, h.2]
      · simp [arm_timerPeriod, t1Bit]
      · simp [TickFrame, PhasorKept, PhonemeKept, ModelKept]
    · have hr : (s.dev d).acr.getLsbD runModeBit = false := Bool.eq_false_iff.mpr ha
      have ha : (s.dev d).acr.getLsbD 6 = false := hr
      simp only [hr, ha]
      refine ⟨by simp [t1Mask], fun e he => by simp [he], by simp, ?_, ?_, ?_⟩
      · simp [stop_timerOwner, h.2]
      · simp
      · simp [TickFrame, PhasorKept, PhonemeKept, ModelKept]
  · have hu : under1 s n d = false := by
      simp only [under1, Bool.and_eq_false_iff, decide_eq_false_iff_not]; tauto
    simp only [if_neg h, hu]
    exact ⟨by simp, fun e he => by simp [he], by simp, by simp, by simp,
      by simp [TickFrame, PhasorKept, PhonemeKept, ModelKept]⟩

/-- Everything timer 2 of one device can do in a tick (41_timer_engine.md R144). -/
theorem tick2_spec (d : DevIx) (n : Half) (s : State) :
    (tick2 d n s).1.dev d = { s.dev d with
        t2c := (s.dev d).t2c - n
        t2Armed := (s.dev d).t2Armed && !under2 s n d
        ifr := (s.dev d).ifr ||| if under2 s n d then 0x20#8 else 0#8 } ∧
      OthersKept s (tick2 d n s).1 d ∧ (tick2 d n s).2 = under2 s n d ∧
      TimerKept s (tick2 d n s).1 ∧ TickFrame s (tick2 d n s).1 := by
  unfold tick2
  by_cases h : n.toNat > (s.dev d).t2c.toNat ∧ (s.dev d).t2Armed = true
  · have hu : under2 s n d = true := by simp [under2, h.1, h.2]
    simp only [if_pos h, hu]
    exact ⟨by simp [t2Mask], fun e he => by simp [he], by simp, ⟨rfl, rfl⟩,
      by simp [TickFrame, PhasorKept, PhonemeKept, ModelKept]⟩
  · have hu : under2 s n d = false := by
      rw [← Bool.not_eq_true]; intro hh; simp only [under2, Bool.and_eq_true, decide_eq_true_eq] at hh; exact h hh.symm
    simp only [if_neg h, hu]
    exact ⟨by simp, fun e he => by simp [he], by simp, ⟨rfl, rfl⟩,
      by simp [TickFrame, PhasorKept, PhonemeKept, ModelKept]⟩

/-- Everything one device's part of a tick can do. -/
theorem tickDevice_spec (n : Half) (s : State) (fired : Bool) (d : DevIx) :
    (tickDevice n (s, fired) d).1.dev d = ticked s n d ∧ OthersKept s (tickDevice n (s, fired) d).1 d ∧
      (tickDevice n (s, fired) d).2 = (fired || under1 s n d || under2 s n d) ∧
      (tickDevice n (s, fired) d).1.blk.timerOwner =
        (if under1 s n d && !(s.dev d).acr.getLsbD 6 then none else s.blk.timerOwner) ∧
      (tickDevice n (s, fired) d).1.blk.timerPeriod =
        (if under1 s n d && (s.dev d).acr.getLsbD 6 && (isA d && (s.dev d).ier.getLsbD 6) then (s.dev d).t1l
          else s.blk.timerPeriod) ∧
      TickFrame s (tickDevice n (s, fired) d).1 := by
  obtain ⟨a1, b1, c1, o1, p1, f1⟩ := tick1_spec d n s
  obtain ⟨a2, b2, c2, ⟨o2, p2⟩, f2⟩ := tick2_spec d n (tick1 d n s).1
  have hu : under2 (tick1 d n s).1 n d = under2 s n d := by simp only [under2, a1]
  rw [hu] at a2 c2
  refine ⟨?_, fun e he => (b2 e he).trans (b1 e he), ?_, o2.trans o1, p2.trans p1, f1.trans f2⟩
  · exact a2.trans (by rw [a1]; rfl)
  · show (fired || _ || _) = _
    rw [c1, c2]

/-- A device that is not the owner of the slot after one device's part of a tick was not before, or owned it then. -/
theorem ticked_of_others {s t : State} {n : Half} {e : DevIx} (hd : t.dev e = s.dev e)
    (ho : t.blk.timerOwner = some e ↔ s.blk.timerOwner = some e) :
    ticked t n e = ticked s n e ∧ under1 t n e = under1 s n e ∧ under2 t n e = under2 s n e := by
  have h1 : under1 t n e = under1 s n e := by simp [under1, hd, ho]
  have h2 : under2 t n e = under2 s n e := by simp only [under2, hd]
  refine ⟨?_, h1, h2⟩
  simp only [ticked, h1, h2, hd]

/-- Everything the devices of a list can do in a tick, one after another (41_timer_engine.md R142). -/
theorem tickDevices_spec (n : Half) : ∀ (l : List DevIx) (s : State) (fired : Bool), l.Nodup →
    (∀ d ∈ l, (l.foldl (tickDevice n) (s, fired)).1.dev d = ticked s n d) ∧
      (∀ d ∉ l, (l.foldl (tickDevice n) (s, fired)).1.dev d = s.dev d) ∧
      ((l.foldl (tickDevice n) (s, fired)).2 = true ↔
        fired = true ∨ ∃ d ∈ l, under1 s n d = true ∨ under2 s n d = true) ∧
      ((∃ d ∈ l, under1 s n d = true ∧ (s.dev d).acr.getLsbD 6 = false) →
        (l.foldl (tickDevice n) (s, fired)).1.blk.timerOwner = none) ∧
      ((¬∃ d ∈ l, under1 s n d = true ∧ (s.dev d).acr.getLsbD 6 = false) →
        (l.foldl (tickDevice n) (s, fired)).1.blk.timerOwner = s.blk.timerOwner) ∧
      (∀ d ∈ l, under1 s n d = true → (s.dev d).acr.getLsbD 6 = true → isA d = true → (s.dev d).ier.getLsbD 6 = true →
        (l.foldl (tickDevice n) (s, fired)).1.blk.timerPeriod = (s.dev d).t1l) ∧
      ((¬∃ d ∈ l, under1 s n d = true ∧ (s.dev d).acr.getLsbD 6 = true ∧ isA d = true ∧
          (s.dev d).ier.getLsbD 6 = true) →
        (l.foldl (tickDevice n) (s, fired)).1.blk.timerPeriod = s.blk.timerPeriod) ∧
      TickFrame s (l.foldl (tickDevice n) (s, fired)).1 := by
  intro l
  induction l with
  | nil => intro s fired _; simp [TickFrame.refl]
  | cons e l ih =>
    intro s fired hn
    obtain ⟨hel, hl⟩ := List.nodup_cons.mp hn
    obtain ⟨a, b, c, o, p, f⟩ := tickDevice_spec n s fired e
    generalize hr : tickDevice n (s, fired) e = r at a b c o p f
    obtain ⟨t, fired'⟩ := r
    simp only at a b c o p f
    obtain ⟨iA, iB, iC, iO, iO', iP, iP', iF⟩ := ih t fired' hl
    have hne : ∀ d ∈ l, d ≠ e := fun d hd h => hel (h ▸ hd)
    have key : ∀ d, d ≠ e → (ticked t n d = ticked s n d ∧ under1 t n d = under1 s n d ∧ under2 t n d = under2 s n d)
        ∧ t.dev d = s.dev d := by
      intro d hd
      refine ⟨ticked_of_others (b d hd) ?_, b d hd⟩
      rw [o]
      split
      · rename_i hu
        have : s.blk.timerOwner = some e := by simp [under1] at hu; exact hu.1.1
        simp [this, Ne.symm hd]
      · rfl
    have u1 : ∀ d ∈ l, under1 t n d = under1 s n d := fun d hd => (key d (hne d hd)).1.2.1
    have u2 : ∀ d ∈ l, under2 t n d = under2 s n d := fun d hd => (key d (hne d hd)).1.2.2
    have dv : ∀ d ∈ l, t.dev d = s.dev d := fun d hd => b d (hne d hd)
    rw [List.foldl_cons, hr]
    have un : ∀ d ∈ l, under1 s n e = true → under1 s n d = false := by
      intro d hd h
      have : s.blk.timerOwner = some e := by simp [under1] at h; exact h.1
      simp [under1, this, Ne.symm (hne d hd)]
    refine ⟨?_, ?_, ?_, ?_, ?_, ?_, ?_, f.trans iF⟩
    · intro d hd
      rcases List.mem_cons.mp hd with rfl | hd
      · rw [iB _ hel, a]
      · rw [iA d hd, (key d (hne d hd)).1.1]
    · intro d hd
      rw [List.mem_cons, not_or] at hd
      rw [iB d hd.2, b d hd.1]
    · rw [iC, c]
      have : (∃ d ∈ l, under1 t n d = true ∨ under2 t n d = true) ↔ ∃ d ∈ l, under1 s n d = true ∨ under2 s n d = true :=
        exists_congr fun d => and_congr_right fun hd => by rw [u1 d hd, u2 d hd]
      rw [this]
      simp [or_assoc]
    · rintro ⟨d, hd, hu, ha⟩
      rcases List.mem_cons.mp hd with rfl | hd
      · have ot : t.blk.timerOwner = none := by rw [o, hu, ha]; rfl
        rw [iO', ot]
        rintro ⟨d', hd', hu', _⟩
        rw [u1 d' hd', un d' hd' hu] at hu'; cases hu'
      · exact iO ⟨d, hd, by rw [u1 d hd, hu], by rw [dv d hd, ha]⟩
    · intro h
      rw [iO', o, if_neg]
      · intro hh; exact h ⟨e, by simp, by simpa using hh⟩
      · rintro ⟨d, hd, hu, ha⟩
        exact h ⟨d, List.mem_cons_of_mem _ hd, by rw [← u1 d hd, hu], by rw [← dv d hd, ha]⟩
    · intro d hd hu ha hi he
      rcases List.mem_cons.mp hd with rfl | hd
      · rw [iP', p]
        · simp [hu, ha, hi, he]
        · rintro ⟨d', hd', hu', _⟩
          rw [u1 d' hd', un d' hd' hu] at hu'; cases hu'
      · rw [iP d hd (by rw [u1 d hd, hu]) (by rw [dv d hd, ha]) hi (by rw [dv d hd, he]), dv d hd]
    · intro h
      rw [iP', p, if_neg]
      · intro hh; exact h ⟨e, by simp, by simpa [and_assoc] using hh⟩
      · rintro ⟨d, hd, hu, ha, hi, he⟩
        exact h ⟨d, List.mem_cons_of_mem _ hd, by rw [← u1 d hd, hu], by rw [← dv d hd, ha], hi, by rw [← dv d hd, he]⟩
end Sys2Proof.Machine
end

