-- ==== Sys2Proof/Laws/Window.lean ====
section
/-! SUPPORT. The register operations by index, and what the window decode does, said once. -/

namespace Sys2Proof.Machine

/-! ## The operation of a register index is the register access of that index (30_encoding.md R61, R62) -/

theorem exec_piaReadInstr (r : BitVec 4) (d : DevIx) (s : State) :
    exec (piaReadInstr r d) s = answers (regRead d r) s := by
  obtain ⟨⟨r, hr⟩⟩ := r
  interval_cases r <;> rfl

theorem exec_piaWriteInstr (r : BitVec 4) (d : DevIx) (v : Byte) (s : State) :
    exec (piaWriteInstr r d v) s = performs (regWrite d r v) s := by
  obtain ⟨⟨r, hr⟩⟩ := r
  interval_cases r <;> rfl

theorem speechReadInstr_of_le {r : BitVec 4} (h : r.toNat ≤ 4) (d : DevIx) :
    ∃ i, speechReadInstr r d = some i ∧ ∀ s, exec i s = answers (spRead d ⟨r.toNat, by omega⟩) s := by
  obtain ⟨⟨r, hr⟩⟩ := r
  simp only [BitVec.toNat_ofFin] at h
  interval_cases r <;> exact ⟨_, rfl, fun _ => rfl⟩

theorem speechWriteInstr_of_le {r : BitVec 4} (h : r.toNat ≤ 4) (d : DevIx) (v : Byte) :
    ∃ i, speechWriteInstr r d v = some i ∧ ∀ s, exec i s = performs (spWrite d ⟨r.toNat, by omega⟩ v) s := by
  obtain ⟨⟨r, hr⟩⟩ := r
  simp only [BitVec.toNat_ofFin] at h
  interval_cases r <;> exact ⟨_, rfl, fun _ => rfl⟩

/-! ## Window offsets (30_encoding.md R70) -/

theorem windowTarget_piaA (c : CardIx) {off : Byte} (h : off.toNat ≤ 0x0F) :
    windowTarget c off = some (.pia (cardA c) (off.setWidth 4)) := by
  unfold windowTarget; rw [if_pos h]

theorem speechRegAt_of_mem {off : Byte} (h : 0x40 ≤ off.toNat ∧ off.toNat ≤ 0x44) :
    speechRegAt off = some ⟨off.toNat - 0x40, by omega⟩ := by
  unfold speechRegAt
  rw [dif_pos ⟨h.1, by show off.toNat - 0x40 < 5; omega⟩]
  rfl

theorem speechRegAt_of_not_mem {off : Byte} (h : ¬(0x40 ≤ off.toNat ∧ off.toNat ≤ 0x44)) : speechRegAt off = none := by
  unfold speechRegAt
  rw [dif_neg]
  intro hh
  have h₁ : 0x40 ≤ off.toNat := hh.1
  have h₂ : off.toNat - 0x40 < 5 := hh.2
  omega

theorem windowTarget_speech (c : CardIx) {off : Byte} (h : 0x40 ≤ off.toNat ∧ off.toNat ≤ 0x44) :
    windowTarget c off = some (.speech (cardB c) ⟨off.toNat - 0x40, by omega⟩) := by
  unfold windowTarget; rw [if_neg (by omega), speechRegAt_of_mem h]

theorem windowTarget_piaB (c : CardIx) {off : Byte} (h : 0x80 ≤ off.toNat ∧ off.toNat ≤ 0x8F) :
    windowTarget c off = some (.pia (cardB c) (off.setWidth 4)) := by
  unfold windowTarget
  rw [if_neg (by omega), speechRegAt_of_not_mem (by omega)]
  exact if_pos h

theorem windowTarget_none (c : CardIx) {off : Byte} (h₁ : ¬off.toNat ≤ 0x0F)
    (h₂ : ¬(0x40 ≤ off.toNat ∧ off.toNat ≤ 0x44)) (h₃ : ¬(0x80 ≤ off.toNat ∧ off.toNat ≤ 0x8F)) :
    windowTarget c off = none := by
  unfold windowTarget
  rw [if_neg h₁, speechRegAt_of_not_mem h₂]
  exact if_neg h₃

theorem cardOf_of_le {c : Byte} (h : c.toNat ≤ 1) : cardOf c = some ⟨c.toNat, by omega⟩ := by
  unfold cardOf; rw [dif_pos (by omega)]

theorem cardOf_of_gt {c : Byte} (h : c.toNat > 1) : cardOf c = none := by
  unfold cardOf; rw [dif_neg (by omega)]

/-- A read through the window on an attached block, by card and layout (45_system_ops.md R213). -/
theorem execBusr_of_card {c off : Byte} {s : State} (h : s.attached = true) (hc : c.toNat ≤ 1) :
    execBusr c off s =
      if s.blk.nativeMode then answers (nativeRead (selectsA off) (selectsB off) ⟨c.toNat, by omega⟩ off) s
      else
        match windowTarget ⟨c.toNat, by omega⟩ off with
        | some t => answers (readTarget t) s
        | none => .refused .offsetInNoRange := by
  unfold execBusr
  refine (whenAttached_of_attached h _).trans ?_
  split
  · rename_i hn
    rw [cardOf_of_le hc] at hn
    cases hn
  · rename_i hn
    obtain rfl := Option.some.inj (hn.symm.trans (cardOf_of_le hc))
    rfl

/-- A write through the window on an attached block, by card and layout (45_system_ops.md R214). -/
theorem execBusw_of_card {c off v : Byte} {s : State} (h : s.attached = true) (hc : c.toNat ≤ 1) :
    execBusw c off v s =
      if s.blk.nativeMode then performs (nativeWrite (selectsA off) (selectsB off) ⟨c.toNat, by omega⟩ off v) s
      else
        match windowTarget ⟨c.toNat, by omega⟩ off with
        | some t => performs (writeTarget v t) s
        | none => .refused .offsetInNoRange := by
  unfold execBusw
  refine (whenAttached_of_attached h _).trans ?_
  split
  · rename_i hn
    rw [cardOf_of_le hc] at hn
    cases hn
  · rename_i hn
    obtain rfl := Option.some.inj (hn.symm.trans (cardOf_of_le hc))
    rfl

end Sys2Proof.Machine
end

