-- ==== Sys2Proof/Tests/Slice0.lean ====
section
/-! SUPPORT. Tests: the smoke tests of WellFormed, the decoding of every operation from a word written out from the
spec's encoding of it, worked examples of 95_test_vectors.md and of the rules, one step each, and a witness for the
hypotheses of every statement that has any. -/

namespace Sys2Proof.Tests

open Sys2Proof.Machine

/-! ## Small states -/

/-- The state after attach with device `d` changed by `f`. -/
def withDev (d : DevIx) (f : Device → Device) : State := State.reset.modDev d f

/-- The state with its global items changed by `g`. -/
def withBlk (s : State) (g : Block → Block) : State := { s with blk := g s.blk }

/-- The state with the Phasor configuration `e`, `m`. -/
def withPhasor (s : State) (e m : Bool) : State := withBlk s fun b => { b with phasorEnable := e, phasorMode := m }

/-- The state with device `d` owning the timer slot. -/
def withOwner (s : State) (d : DevIx) : State := withBlk s fun b => { b with timerOwner := some d }

/-- The state with phoneme `p` of device `d` playing. -/
def withPhoneme (s : State) (p : Phoneme) (d : DevIx) (via : Bool) : State :=
  withBlk s fun b => { b with activePhoneme := some p, speechOwner := some d, viaVotrax := via }

/-- The state with an operation issued. -/
def issued (s : State) (i : Instr) : State := { s with input := encode i }

/-- The operation completes in a state in which `p` holds. -/
def leads (i : Instr) (s : State) (p : State → Bool) : Bool :=
  match exec i s with
  | .next t => p t
  | .fault _ => false
  | .refused _ => false

/-- The operation is refused for reason `r`. -/
def refuses (i : Instr) (s : State) (r : Refusal) : Bool :=
  match exec i s with
  | .next _ => false
  | .fault _ => false
  | .refused q => q == r

/-- The byte the operation answers. -/
def replies (i : Instr) (s : State) (b : Byte) : Bool := leads i s fun t => t.result == some (.byte b)

/-- The normative outputs of the operation. -/
def outputsOf (i : Instr) (s : State) : List Event :=
  match exec i s with
  | .next t => t.outputs
  | .fault _ => []
  | .refused _ => []

/-! ## WellFormed refuses what is out of its domain -/

/-- A snapshot whose timer owner is the B instance 1. -/
def oddOwner : Block := { Block.zero false false with timerOwner := some 1 }

/-- A snapshot with bit 7 of an IER set. -/
def topEnable : Block := (withDev 2 fun x => { x with ier := 0x80#8 }).blk

theorem test_wellFormed_tick_too_large : Instr.wellFormed (.tick 0x10000) = false := by decide
theorem test_wellFormed_busr_no_card : Instr.wellFormed (.busr 2#8 0#8) = false := by decide
theorem test_wellFormed_busw_no_card : Instr.wellFormed (.busw 0xFF#8 0#8 0#8) = false := by decide
theorem test_wellFormed_snapshot_odd_owner : Instr.wellFormed (.snaprestore oddOwner) = false := by decide
theorem test_wellFormed_snapshot_top_enable : Instr.wellFormed (.snaprestore topEnable) = false := by decide

/-! ## Every operation's word (30_encoding.md R60, R61, R62, R64, R70, R72, R75; the tokens of the PSG functions and the
window ranges are log entry 9's, those of SNAPSAVE and SNAPRESTORE log entry 21's) -/

theorem test_decode_wOrb : decode [.byte 0b00010000#8, .byte 2#8, .byte 0x5A#8] = .ok (.wOrb 2 0x5A#8, []) := by decide
theorem test_decode_wOra : decode [.byte 0b00010001#8, .byte 2#8, .byte 0x5A#8] = .ok (.wOra 2 0x5A#8, []) := by decide
theorem test_decode_wDdrb : decode [.byte 0b00010010#8, .byte 2#8, .byte 0x5A#8] = .ok (.wDdrb 2 0x5A#8, []) := by decide
theorem test_decode_wDdra : decode [.byte 0b00010011#8, .byte 2#8, .byte 0x5A#8] = .ok (.wDdra 2 0x5A#8, []) := by decide
theorem test_decode_wT1cl : decode [.byte 0b00010100#8, .byte 2#8, .byte 0x5A#8] = .ok (.wT1cl 2 0x5A#8, []) := by decide
theorem test_decode_wT1ch : decode [.byte 0b00010101#8, .byte 2#8, .byte 0x5A#8] = .ok (.wT1ch 2 0x5A#8, []) := by decide
theorem test_decode_wT1ll : decode [.byte 0b00010110#8, .byte 2#8, .byte 0x5A#8] = .ok (.wT1ll 2 0x5A#8, []) := by decide
theorem test_decode_wT1lh : decode [.byte 0b00010111#8, .byte 2#8, .byte 0x5A#8] = .ok (.wT1lh 2 0x5A#8, []) := by decide
theorem test_decode_wT2l : decode [.byte 0b00011000#8, .byte 2#8, .byte 0x5A#8] = .ok (.wT2l 2 0x5A#8, []) := by decide
theorem test_decode_wT2h : decode [.byte 0b00011001#8, .byte 2#8, .byte 0x5A#8] = .ok (.wT2h 2 0x5A#8, []) := by decide
theorem test_decode_wSr : decode [.byte 0b00011010#8, .byte 2#8, .byte 0x5A#8] = .ok (.wSr 2 0x5A#8, []) := by decide
theorem test_decode_wAcr : decode [.byte 0b00011011#8, .byte 2#8, .byte 0x5A#8] = .ok (.wAcr 2 0x5A#8, []) := by decide
theorem test_decode_wPcr : decode [.byte 0b00011100#8, .byte 2#8, .byte 0x5A#8] = .ok (.wPcr 2 0x5A#8, []) := by decide
theorem test_decode_wIfr : decode [.byte 0b00011101#8, .byte 2#8, .byte 0x5A#8] = .ok (.wIfr 2 0x5A#8, []) := by decide
theorem test_decode_wIer : decode [.byte 0b00011110#8, .byte 2#8, .byte 0x5A#8] = .ok (.wIer 2 0x5A#8, []) := by decide
theorem test_decode_wOran : decode [.byte 0b00011111#8, .byte 2#8, .byte 0x5A#8] = .ok (.wOran 2 0x5A#8, []) := by decide
theorem test_decode_rOrb : decode [.byte 0b00000000#8, .byte 3#8] = .ok (.rOrb 3, []) := by decide
theorem test_decode_rOra : decode [.byte 0b00000001#8, .byte 3#8] = .ok (.rOra 3, []) := by decide
theorem test_decode_rDdrb : decode [.byte 0b00000010#8, .byte 3#8] = .ok (.rDdrb 3, []) := by decide
theorem test_decode_rDdra : decode [.byte 0b00000011#8, .byte 3#8] = .ok (.rDdra 3, []) := by decide
theorem test_decode_rT1cl : decode [.byte 0b00000100#8, .byte 3#8] = .ok (.rT1cl 3, []) := by decide
theorem test_decode_rT1ch : decode [.byte 0b00000101#8, .byte 3#8] = .ok (.rT1ch 3, []) := by decide
theorem test_decode_rT1ll : decode [.byte 0b00000110#8, .byte 3#8] = .ok (.rT1ll 3, []) := by decide
theorem test_decode_rT1lh : decode [.byte 0b00000111#8, .byte 3#8] = .ok (.rT1lh 3, []) := by decide
theorem test_decode_rT2l : decode [.byte 0b00001000#8, .byte 3#8] = .ok (.rT2l 3, []) := by decide
theorem test_decode_rT2h : decode [.byte 0b00001001#8, .byte 3#8] = .ok (.rT2h 3, []) := by decide
theorem test_decode_rSr : decode [.byte 0b00001010#8, .byte 3#8] = .ok (.rSr 3, []) := by decide
theorem test_decode_rAcr : decode [.byte 0b00001011#8, .byte 3#8] = .ok (.rAcr 3, []) := by decide
theorem test_decode_rPcr : decode [.byte 0b00001100#8, .byte 3#8] = .ok (.rPcr 3, []) := by decide
theorem test_decode_rIfr : decode [.byte 0b00001101#8, .byte 3#8] = .ok (.rIfr 3, []) := by decide
theorem test_decode_rIer : decode [.byte 0b00001110#8, .byte 3#8] = .ok (.rIer 3, []) := by decide
theorem test_decode_rOran : decode [.byte 0b00001111#8, .byte 3#8] = .ok (.rOran 3, []) := by decide
theorem test_decode_swDurphon : decode [.byte 0b00110000#8, .byte 1#8, .byte 0xC5#8] = .ok (.swDurphon 1 0xC5#8, []) := by
  decide
theorem test_decode_swInflect : decode [.byte 0b00110001#8, .byte 1#8, .byte 0xC5#8] = .ok (.swInflect 1 0xC5#8, []) := by
  decide
theorem test_decode_swRateinf : decode [.byte 0b00110010#8, .byte 1#8, .byte 0xC5#8] = .ok (.swRateinf 1 0xC5#8, []) := by
  decide
theorem test_decode_swCtrl : decode [.byte 0b00110011#8, .byte 1#8, .byte 0xC5#8] = .ok (.swCtrl 1 0xC5#8, []) := by
  decide
theorem test_decode_swFilt : decode [.byte 0b00110100#8, .byte 1#8, .byte 0xC5#8] = .ok (.swFilt 1 0xC5#8, []) := by
  decide
theorem test_decode_srDurphon : decode [.byte 0b00100000#8, .byte 3#8] = .ok (.srDurphon 3, []) := by decide
theorem test_decode_srInflect : decode [.byte 0b00100001#8, .byte 3#8] = .ok (.srInflect 3, []) := by decide
theorem test_decode_srRateinf : decode [.byte 0b00100010#8, .byte 3#8] = .ok (.srRateinf 3, []) := by decide
theorem test_decode_srCtrl : decode [.byte 0b00100011#8, .byte 3#8] = .ok (.srCtrl 3, []) := by decide
theorem test_decode_srFilt : decode [.byte 0b00100100#8, .byte 3#8] = .ok (.srFilt 3, []) := by decide
theorem test_decode_tick : decode [.byte 0b01000000#8, .byte 0x11#8, .byte 0x02#8] = .ok (.tick 0x211, []) := by decide
theorem test_decode_done : decode [.byte 0b01000001#8] = .ok (.done, []) := by decide
theorem test_decode_reset : decode [.byte 0b01000010#8] = .ok (.reset, []) := by decide
theorem test_decode_config : decode [.byte 0b01000011#8, .byte 0b00000010#8] = .ok (.config false true, []) := by decide
theorem test_decode_attach : decode [.byte 0b01000100#8, .byte 0b00000001#8] = .ok (.attach true false, []) := by decide
theorem test_decode_detach : decode [.byte 0b01000101#8] = .ok (.detach, []) := by decide
theorem test_decode_snapsave : decode [.byte 0b01000110#8] = .ok (.snapsave, []) := by decide
theorem test_decode_snaprestore : decode [.byte 0b01000111#8, .snapshot oddOwner] = .ok (.snaprestore oddOwner, []) := by
  decide
theorem test_decode_busr : decode [.byte 0b01001000#8, .byte 1#8, .byte 0x8E#8] = .ok (.busr 1#8 0x8E#8, []) := by decide
theorem test_decode_busw : decode [.byte 0b01001001#8, .byte 0#8, .byte 0x40#8, .byte 0xC5#8] =
    .ok (.busw 0#8 0x40#8 0xC5#8, []) := by decide
theorem test_decode_psgReset : decode [.psgFn 0b010#3 0 1] = .ok (.psgReset 0b10#2 0 1, []) := by decide
theorem test_decode_psgInactive : decode [.psgFn 0b100#3 2 0] = .ok (.psgInactive 2 0, []) := by decide
theorem test_decode_psgRead : decode [.psgFn 0b101#3 2 0] = .ok (.psgRead 2 0, []) := by decide
theorem test_decode_psgWrite : decode [.psgFn 0b110#3 3 1] = .ok (.psgWrite 3 1, []) := by decide
theorem test_decode_psgLatch : decode [.psgFn 0b111#3 1 0] = .ok (.psgLatch 1 0, []) := by decide
theorem test_decode_winPiaA : decode [.window 0 0b00001110#8 .read] = .ok (.winPiaA 0 0b1110#4 .read, []) := by decide
theorem test_decode_winSpeech03 :
    decode [.window 1 0b01000011#8 (.write 0x80#8)] = .ok (.winSpeech03 1 0b11#2 (.write 0x80#8), []) := by decide
theorem test_decode_winSpeech4 : decode [.window 0 0b01000100#8 .read] = .ok (.winSpeech4 0 .read, []) := by decide
theorem test_decode_winPiaB : decode [.window 1 0b10001101#8 .read] = .ok (.winPiaB 1 0b1101#4 .read, []) := by decide
theorem test_decode_window_hole : decode [.window 0 0x45#8 .read] = .error .offsetInNoRange := by decide
theorem test_decode_config_reserved_bits : decode [.byte 0x43#8, .byte 4#8] = .error .reservedConfigBits := by decide

/-! ## PIA writes and reads (95_test_vectors.md section 2.1 and the examples of 40_pia_registers.md) -/

/-- Device 0 as vectors V40-8 to V40-11 start. -/
def flagged : State := withDev 0 fun x => { x with ifr := 0xE2#8, ier := 0x60#8 }

/-- Device 0 as vector V40-17 and the example of R124 start. -/
def counting : State := withDev 0 fun x => { x with t1c := 0x3F12#16, ifr := 0xC0#8, ier := 0x40#8 }

-- V40-1
theorem test_wOra_masked : leads (.wOra 0 0xAB#8) (withDev 0 fun x => { x with ddra := 0x0F#8 })
    (fun t => (t.dev 0).ora == 0x0B#8) = true := by decide
theorem test_wOra_unmasked :
    leads (.wOra 0 0xAB#8)
      { withDev 0 (fun x => { x with ddra := 0x0F#8 }) with params := ⟨1, false, true, false⟩ }
      (fun t => (t.dev 0).ora == 0xAB#8) = true := by decide
-- examples of R104, R105, R113, R114
theorem test_wDdrb : leads (.wDdrb 3 0x1F#8) State.reset (fun t => (t.dev 3).ddrb == 0x1F#8) = true := by decide
theorem test_wDdra : leads (.wDdra 3 0x0F#8) State.reset (fun t => (t.dev 3).ddra == 0x0F#8) = true := by decide
theorem test_wAcr : leads (.wAcr 0 0x40#8) State.reset (fun t => (t.dev 0).acr == 0x40#8) = true := by decide
theorem test_wPcr : leads (.wPcr 1 0xB0#8) State.reset (fun t => (t.dev 1).pcr == 0xB0#8) = true := by decide
-- V40-6
theorem test_wT1cl_latch_low : leads (.wT1cl 0 0xFF#8) (withDev 0 fun x => { x with t1l := 0x1234#16 })
    (fun t => (t.dev 0).t1l == 0x12FF#16 && (t.dev 0).t1c == 0#16) = true := by decide
-- V40-3, second operation
theorem test_wT1ch_loads_without_arming : leads (.wT1ch 0 0x12#8) (withDev 0 fun x => { x with t1l := 0x0034#16 })
    (fun t => (t.dev 0).t1l == 0x1234#16 && (t.dev 0).t1c == 0x1234#16 && t.blk.timerOwner == none) = true := by decide
-- V41-15
theorem test_wT1ch_takes_the_slot :
    leads (.wT1ch 2 0x04#8) (withOwner (withDev 2 fun x => { x with t1l := 0x0300#16, ier := 0x40#8 }) 0)
      (fun t => t.blk.timerOwner == some 2 && t.blk.timerPeriod == 0x0400#16) = true := by decide
-- V41-8, first operation
theorem test_wT1ll_latch_low : leads (.wT1ll 0 0xFF#8) (withDev 0 fun x => { x with t1l := 0x0100#16 })
    (fun t => (t.dev 0).t1l == 0x01FF#16) = true := by decide
-- V40-5, second operation
theorem test_wT1lh_does_not_load : leads (.wT1lh 0 0x12#8) (withDev 0 fun x => { x with t1l := 0x0034#16 })
    (fun t => (t.dev 0).t1l == 0x1234#16 && (t.dev 0).t1c == 0#16) = true := by decide
-- V40-7, first and third operations
theorem test_wT2l_latch_only : leads (.wT2l 1 0x10#8) State.reset
    (fun t => (t.dev 1).t2l == 0x0010#16 && (t.dev 1).t2c == 0#16) = true := by decide
theorem test_wT2h_loads_and_starts : leads (.wT2h 1 0#8) (withDev 1 fun x => { x with t2l := 0x0010#16 })
    (fun t => (t.dev 1).t2c == 0x0010#16 && (t.dev 1).t2Armed) = true := by decide
-- V40-13
theorem test_wSr_nothing : leads (.wSr 0 0xAA#8) State.reset (fun t => t.blk == State.reset.blk) = true := by decide
-- V40-8, V40-9
theorem test_wIfr_top_bit_ignored : leads (.wIfr 0 0x80#8) flagged (fun t => (t.dev 0).ifr == 0xE2#8) = true := by decide
theorem test_wIfr_one_cause : leads (.wIfr 0 0x40#8) flagged (fun t => (t.dev 0).ifr == 0xA2#8) = true := by decide
-- V40-15, V40-16
theorem test_wIer_empty_mask_arms :
    leads (.wIer 0 0x80#8) (withDev 0 fun x => { x with ier := 0x40#8, t1l := 0x0100#16 })
      (fun t => t.blk.timerOwner == some 0 && t.blk.timerPeriod == 0x0100#16) = true := by decide
theorem test_wIer_stop_of_another :
    leads (.wIer 2 0x40#8) (withOwner (withDev 2 fun x => { x with ier := 0x40#8 }) 0)
      (fun t => (t.dev 2).ier == 0#8 && t.blk.timerOwner == some 0) = true := by decide
-- V40-14
theorem test_wOran : leads (.wOran 0 0x55#8) (withDev 0 fun x => { x with ddra := 0xFF#8 })
    (fun t => (t.dev 0).ora == 0x55#8) = true := by decide
-- examples of R120 to R135
theorem test_rOrb : replies (.rOrb 0) (withDev 0 fun x => { x with orb := 0x04#8 }) 0x04#8 = true := by decide
theorem test_rOra : replies (.rOra 0) (withDev 0 fun x => { x with ora := 0x3C#8 }) 0x3C#8 = true := by decide
theorem test_rDdrb : replies (.rDdrb 0) (withDev 0 fun x => { x with ddrb := 0xFF#8 }) 0xFF#8 = true := by decide
theorem test_rDdra : replies (.rDdra 3) (withDev 3 fun x => { x with ddra := 0x0F#8 }) 0x0F#8 = true := by decide
theorem test_rT1cl : replies (.rT1cl 0) counting 0x12#8 = true := by decide
theorem test_rT1cl_acknowledges : leads (.rT1cl 0) counting (fun t => (t.dev 0).ifr == 0#8) = true := by decide
theorem test_rT1ch : replies (.rT1ch 0) counting 0x3F#8 = true := by decide
theorem test_rT1ch_keeps_flag : leads (.rT1ch 0) counting (fun t => (t.dev 0).ifr == 0xC0#8) = true := by decide
theorem test_rT1ll : replies (.rT1ll 0) (withDev 0 fun x => { x with t1l := 0x40FF#16 }) 0xFF#8 = true := by decide
theorem test_rT1lh : replies (.rT1lh 0) (withDev 0 fun x => { x with t1l := 0x40FF#16 }) 0x40#8 = true := by decide
theorem test_rT2l : leads (.rT2l 1) (withDev 1 fun x => { x with t2c := 5#16, ifr := 0xA0#8, ier := 0x20#8 })
    (fun t => t.result == some (.byte 5#8) && (t.dev 1).ifr == 0#8) = true := by decide
theorem test_rT2h : replies (.rT2h 1) (withDev 1 fun x => { x with t2c := 0xFFF0#16 }) 0xFF#8 = true := by decide
theorem test_rSr : replies (.rSr 0) (withDev 0 fun x => { x with sr := 0x77#8 }) 0#8 = true := by decide
theorem test_rAcr : replies (.rAcr 0) (withDev 0 fun x => { x with acr := 0x40#8 }) 0x40#8 = true := by decide
theorem test_rPcr : replies (.rPcr 1) (withDev 1 fun x => { x with pcr := 0xB0#8 }) 0xB0#8 = true := by decide
theorem test_rIfr : replies (.rIfr 0) (withDev 0 fun x => { x with ifr := 0x40#8 }) 0x40#8 = true := by decide
theorem test_rIer : replies (.rIer 0) (withDev 0 fun x => { x with ier := 0x7F#8 }) 0x80#8 = true := by decide
theorem test_rOran : replies (.rOran 0) (withDev 0 fun x => { x with ora := 0x3C#8 }) 0x3C#8 = true := by decide

/-! ## The tick (95_test_vectors.md section 2.2) -/

/-- Vector V41-3's start, with the counter and the run mode given. -/
def running (counter : Half) (acr : Byte) : State :=
  withOwner (withDev 0 fun x => { x with t1c := counter, t1l := 0x0100#16, acr := acr, ier := 0x40#8 }) 0

-- V41-3, V41-4, V41-5: reaching zero is no underflow; free-running; one-shot
theorem test_tick_timer1 :
    (leads (.tick 5) (running 5#16 0x40#8) fun t => (t.dev 0).t1c == 0#16 && (t.dev 0).ifr == 0#8) = true ∧
      (leads (.tick 1) (running 0#16 0x40#8) fun t =>
        (t.dev 0).t1c == 0x0100#16 && (t.dev 0).ifr == 0xC0#8 && t.blk.timerOwner == some 0) = true ∧
      (leads (.tick 1) (running 0#16 0#8) fun t =>
        (t.dev 0).t1c == 0xFFFF#16 && (t.dev 0).ifr == 0xC0#8 && t.blk.timerOwner == none) = true := by decide
-- V41-10, second operation: timer 2 of a B instance
theorem test_tick_timer2 : leads (.tick 1) (withDev 1 fun x => { x with t2Armed := true, ier := 0x20#8 })
    (fun t => (t.dev 1).t2c == 0xFFFF#16 && (t.dev 1).ifr == 0xA0#8 && !(t.dev 1).t2Armed) = true := by decide

/-! ## The sound-generator decoder (95_test_vectors.md S1 and section 2.3) -/

/-- Vector S1's start. -/
def s1 : State :=
  withDev 0 fun x =>
    { x with ddra := 0xFF#8, ddrb := 0x07#8, ora := 0x05#8, curReg := 3#4 }.setPsgReg 0 3#4 0x11#8

/-- Vector S1's start in speech-data mode. -/
def s1Speech : State := s1.modDev 0 fun x => { x with ddrb := 0xFF#8, pcr := 0xB0#8 }

theorem test_wOrb_psg_write : leads (.wOrb 0 0x06#8) s1 (fun t => (t.dev 0).psgReg 0 3#4 == 0x05#8) = true := by decide
theorem test_psgReset : leads (.psgReset 0b11#2 0 0) s1
    (fun t => (t.dev 0).psgReg 0 3#4 == 0#8 && (t.dev 0).curReg == 3#4) = true := by decide
-- R270: no chip is reached in speech-data mode
theorem test_psgReset_speechDataMode : leads (.psgReset 0b11#2 0 0) s1Speech (fun t => t == s1Speech) = true := by decide
theorem test_psgInactive : leads (.psgInactive 0 0) s1 (fun t => t.blk == s1.blk) = true := by decide
theorem test_psgRead : leads (.psgRead 0 0) s1 (fun t => t.blk == s1.blk) = true := by decide
theorem test_psgWrite : outputsOf (.psgWrite 0 0) s1 = [.soundGeneratorWrite (psgIndex 0 0) 3#4 0x05#8] := rfl
-- R26: the second chip is not reached in the classic layout
theorem test_psgWrite_second_classic : leads (.psgWrite 0 1) s1 (fun t => t == s1) = true := by decide
-- V42-1, V42-2
theorem test_psgLatch_largest : leads (.psgLatch 0 0) (withDev 0 fun x => { x with ora := 0x0F#8, curReg := 3#4 })
    (fun t => (t.dev 0).curReg == 15#4) = true := by decide
theorem test_psgLatch_ignored : leads (.psgLatch 0 0) (withDev 0 fun x => { x with ora := 0x10#8, curReg := 3#4 })
    (fun t => (t.dev 0).curReg == 3#4) = true := by decide

/-! ## Speech and the Votrax route (95_test_vectors.md S6, S7, sections 2.4 and 2.5) -/

-- S7
theorem test_swDurphon : leads (.swDurphon 1 0xC5#8)
    (withDev 1 fun x => { x with ier := 0x02#8, ifr := 0x82#8, spCur := 0xC1#8 })
    (fun t => (t.dev 1).spDurPhon == 0xC5#8 && (t.dev 1).ifr == 0#8 && (t.dev 1).spCur == 0xC0#8 &&
      t.outputs == [.playPhoneme 5#6]) = true := by decide
-- V43-13
theorem test_swDurphon_suppressed :
    leads (.swDurphon 3 0x80#8) (withPhasor (withPhoneme State.reset 0x21#6 3 false) true false)
      (fun t => t.outputs == [] && t.blk.activePhoneme == some 0x21#6) = true := by decide
-- V43-9
theorem test_swInflect : leads (.swInflect 1 0x12#8) State.reset (fun t => (t.dev 1).spInflect == 0x12#8) = true := by
  decide
theorem test_swRateinf : leads (.swRateinf 1 0x34#8) State.reset (fun t => (t.dev 1).spRateInf == 0x34#8) = true := by
  decide
theorem test_swFilt : leads (.swFilt 1 0x56#8) State.reset (fun t => (t.dev 1).spFilt == 0x56#8) = true := by decide
-- V43-4, V43-5
theorem test_swCtrl_falling_edge :
    leads (.swCtrl 1 0x7F#8) (withDev 1 fun x => { x with spDurPhon := 0xC5#8, spCtrl := 0x80#8 })
      (fun t => (t.dev 1).spCtrl == 0x7F#8 && (t.dev 1).spCur == 0xC0#8) = true := by decide
theorem test_swCtrl_no_edge :
    leads (.swCtrl 1 0#8) (withDev 1 fun x => { x with spDurPhon := 0x45#8, spCur := 0xC0#8 })
      (fun t => (t.dev 1).spCur == 0xC0#8) = true := by decide
-- V43-7, V43-8
theorem test_srDurphon : replies (.srDurphon 1) (withDev 1 fun x => { x with spCur := 0xC1#8 }) 0x80#8 = true := by decide
theorem test_srInflect : replies (.srInflect 1) (withDev 1 fun x => { x with spCur := 0xC1#8 }) 0x80#8 = true := by decide
theorem test_srRateinf : replies (.srRateinf 1) (withDev 1 fun x => { x with spCur := 0xC0#8 }) 0#8 = true := by decide
theorem test_srCtrl : replies (.srCtrl 1) (withDev 1 fun x => { x with spCur := 0xC1#8 }) 0x80#8 = true := by decide
theorem test_srFilt : replies (.srFilt 1) (withDev 1 fun x => { x with spCur := 0xC0#8 }) 0#8 = true := by decide
-- V43-10, V43-11
theorem test_done_flag : leads .done (withPhoneme (withDev 1 fun x => { x with spCur := 0x40#8 }) 9#6 1 false)
    (fun t => (t.dev 1).spCur == 0x41#8 && (t.dev 1).ifr == 0x02#8 && t.blk.activePhoneme == none) = true := by decide
theorem test_done_speech_line :
    leads .done (withPhasor (withPhoneme (withDev 3 fun x => { x with spCur := 0x80#8 }) 9#6 3 false) true false)
      (fun t => (t.dev 3).spCur == 0x81#8 && t.blk.speechLine && (t.dev 3).ifr == 0#8) = true := by decide
-- V44-2
theorem test_wOrb_votrax : outputsOf (.wOrb 0 0x1D#8) (withDev 0 fun x => { x with ddrb := 0xFF#8, pcr := 0xB0#8 }) =
    [.playPhoneme 0x25#6] := rfl

/-! ## System operations and the card window (95_test_vectors.md sections 2.6 and 2.8) -/

-- V70-1, in the items a small state has
theorem test_reset : leads .reset (withPhasor (withDev 0 fun x => { x with t1l := 0x20#16, ier := 0x7F#8 }) true true)
    (fun t => t.blk == Block.zero true true) = true := by decide
-- V45-7
theorem test_config_keeps_line :
    leads (.config false false) (withBlk (withPhasor State.reset true false) fun b => { b with speechLine := true })
      (fun t => !t.blk.phasorEnable && t.blk.speechIrqLevel) = true := by decide
theorem test_attach : leads (.attach true false) (withDev 0 fun x => { x with ora := 1#8 })
    (fun t => t.blk == Block.zero true false) = true := by decide
theorem test_detach : leads .detach State.reset (fun t => !t.attached) = true := by decide
theorem test_detached_refuses : refuses (.rOrb 0) { State.reset with attached := false } .detached = true := by decide
theorem test_snapsave : leads .snapsave counting (fun t => t.result == some (.snapshot counting.blk)) = true := by decide
-- V45-5, V45-6
theorem test_snaprestore_summary_cleared :
    leads (.snaprestore (withDev 0 fun x => { x with ifr := 0x80#8, ier := 0x40#8 }).blk) State.reset
      (fun t => (t.dev 0).ifr == 0#8 && !t.blk.piaIrqLevel) = true := by decide
theorem test_snaprestore_summary_set :
    leads (.snaprestore (withDev 2 fun x => { x with ifr := 0x40#8, ier := 0x40#8 }).blk) State.reset
      (fun t => (t.dev 2).ifr == 0xC0#8 && t.blk.piaIrqLevel) = true := by decide
-- V45-1, V45-2, V45-3
theorem test_busw_card1_b : leads (.busw 1#8 0x83#8 0x3C#8) State.reset (fun t => (t.dev 3).ddra == 0x3C#8) = true := by
  decide
theorem test_busw_hole : refuses (.busw 0#8 0x45#8 0#8) State.reset .offsetInNoRange = true := by decide
theorem test_busr_ier : replies (.busr 1#8 0x8E#8) State.reset 0x80#8 = true := by decide
theorem test_busr_no_card : refuses (.busr 2#8 0#8) State.reset .noSuchCard = true := by decide
-- 30_encoding.md R70
theorem test_winPiaA : leads (.winPiaA 1 3#4 (.write 0xF0#8)) State.reset (fun t => (t.dev 2).ddra == 0xF0#8) = true := by
  decide
theorem test_winSpeech03 : leads (.winSpeech03 0 1#2 (.write 0x12#8)) State.reset
    (fun t => (t.dev 1).spInflect == 0x12#8) = true := by decide
theorem test_winSpeech4 : leads (.winSpeech4 1 (.write 0x56#8)) State.reset
    (fun t => (t.dev 3).spFilt == 0x56#8) = true := by decide
theorem test_winPiaB : replies (.winPiaB 1 0xE#4 .read) State.reset 0x80#8 = true := by decide

/-! ## The step, and the host's two questions -/

theorem test_step_takes_tokens :
    step { State.reset with input := [.byte 0x12#8, .byte 1#8, .byte 7#8, .byte 0x41#8] } =
      exec (.wDdrb 1 7#8) { State.reset with input := [.byte 0x41#8] } := rfl
theorem test_decodeTableWord_wIer : decodeTableWord 8 0x1E = some (.wIer 0 0#8) := by decide
theorem test_decodeTableWord_psgWrite : decodeTableWord 8 0x76 = some (.psgWrite 0 0) := by decide
theorem test_decodeTableWord_winPiaB : decodeTableWord 8 0x80 = some (.winPiaB 0 0#4 .read) := by decide
theorem test_withFetchWord_runs :
    step (State.reset.withFetchWord 8 0x40) = exec (.tick 0) { State.reset with input := [.byte 0#8] } := rfl

/-! ## Witnesses: states and operands that meet the hypotheses of the statements -/

/-- The state an operation leads to, or the state before where it leads to none. -/
def after (i : Instr) (s : State) : State :=
  match exec i s with
  | .next t => t
  | .fault _ => s
  | .refused _ => s

/-- The state a step leads to, or the state before where it leads to none. -/
def stepped (s : State) : State :=
  match step s with
  | .next t => t
  | .fault _ => s
  | .refused _ => s

/-- An owner about to fire, with the tick that makes it fire issued. -/
def aboutToFire : State := issued (running 0#16 0x40#8) (.tick 1)

/-- A phoneme of device 1 playing with its mode latched, DONE issued. -/
def aboutToEnd : State := issued (withPhoneme (withDev 1 fun x => { x with spCur := 0xC0#8 }) 5#6 1 false) .done

/-- A state in which control is about to fall. -/
def aboutToLatch : State := withDev 1 fun x => { x with spDurPhon := 0xC5#8, spCtrl := 0x80#8 }

/-- A detached block. -/
def gone : State := { State.reset with attached := false }

theorem witness_StepRunsDecodedOperation :
    decode (issued State.reset (.wIer 0 0xC0#8)).input = .ok (.wIer 0 0xC0#8, []) := rfl

theorem witness_StepWithoutAnOperation :
    State.reset.input = [] ∧
      ∃ s : State, s.input ≠ [] ∧ decode s.input = .error .selectorTopBit :=
  ⟨rfl, { State.reset with input := [.byte 0x80#8] }, by decide, rfl⟩

theorem witness_DecodeEncodeAgree :
    Instr.wellFormed (.tick 0xFFFF) = true ∧ Instr.wellFormed (.busr 1#8 0xFF#8) = true ∧
      Instr.wellFormed (.busw 1#8 0xFF#8 0xFF#8) = true ∧ Instr.wellFormed (.snaprestore counting.blk) = true ∧
      Instr.wellFormed (.psgReset 3#2 3 1) = true := by decide

theorem witness_LengthDecidedByFirstByte :
    decode [.byte 0x04#8, .byte 0#8] = .ok (.rT1cl 0, []) ∧
      decode [.byte 0x04#8, .byte 3#8, .byte 9#8] = .ok (.rT1cl 3, [.byte 9#8]) := by decide

theorem witness_ReservedEncodingsRejected :
    (∀ b ∈ ([0x25#8, 0x2F#8, 0x35#8, 0x3F#8, 0x4A#8, 0xFF#8] : List Byte),
      0x25 ≤ b.toNat ∧ b.toNat ≤ 0x2F ∨ 0x35 ≤ b.toNat ∧ b.toNat ≤ 0x3F ∨ 0x4A ≤ b.toNat) ∧
    (∀ b ∈ ([0x00#8, 0x24#8, 0x30#8, 0x34#8] : List Byte),
      (b.toNat ≤ 0x24 ∨ 0x30 ≤ b.toNat ∧ b.toNat ≤ 0x34) ∧ 4 ≤ (4#8 : Byte).toNat) ∧
    (∀ b ∈ ([0x00#8, 0x0F#8, 0x20#8, 0x24#8] : List Byte),
      (b.toNat ≤ 0x0F ∨ 0x20 ≤ b.toNat ∧ b.toNat ≤ 0x24) ∧ 4 ≤ (4#8 : Byte).toNat) ∧
    ∀ b ∈ ([0x10#8, 0x1F#8, 0x30#8, 0x34#8] : List Byte),
      (0x10 ≤ b.toNat ∧ b.toNat ≤ 0x1F ∨ 0x30 ≤ b.toNat ∧ b.toNat ≤ 0x34) ∧ 4 ≤ (4#8 : Byte).toNat := by decide

theorem witness_SummaryKeptByEveryStep : aboutToFire.Summary ∧ step aboutToFire = .next (stepped aboutToFire) :=
  ⟨by decide, rfl⟩

theorem witness_OwnerEnabledKept :
    aboutToFire.OwnerEnabled ∧ (∀ S rest, decode aboutToFire.input ≠ .ok (.snaprestore S, rest)) ∧
      step aboutToFire = .next (stepped aboutToFire) := by
  refine ⟨by decide, fun S rest h => ?_, rfl⟩
  have : decode aboutToFire.input = .ok (.tick 1, []) := rfl
  rw [this] at h
  cases h

theorem witness_TypesKeptByEveryStep :
    (issued State.reset (.snaprestore counting.blk)).blk.Typed ∧
      step (issued State.reset (.snaprestore counting.blk)) =
        .next (stepped (issued State.reset (.snaprestore counting.blk))) := ⟨by decide, rfl⟩

theorem witness_ModeByteKept :
    aboutToEnd.ModeByteOk ∧ (∀ S rest, decode aboutToEnd.input ≠ .ok (.snaprestore S, rest)) ∧
      step aboutToEnd = .next (stepped aboutToEnd) := by
  refine ⟨by decide, fun S rest h => ?_, rfl⟩
  have : decode aboutToEnd.input = .ok (.done, []) := rfl
  rw [this] at h
  cases h

theorem witness_ActivePhonemeStaysOwned :
    aboutToEnd.PhonemeOwned ∧ aboutToEnd.blk.activePhoneme.isSome = true ∧
      (∀ S rest, decode aboutToEnd.input ≠ .ok (.snaprestore S, rest)) ∧
      step aboutToEnd = .next (stepped aboutToEnd) := by
  refine ⟨by decide, by decide, fun S rest h => ?_, rfl⟩
  have : decode aboutToEnd.input = .ok (.done, []) := rfl
  rw [this] at h
  cases h

theorem witness_LastEventAgreesWithLevel :
    (aboutToFire.emit (.deassertHostIrq .pia)).LinesTold ∧
      lastTold .pia (aboutToFire.emit (.deassertHostIrq .pia)).trace = some false ∧
      step (aboutToFire.emit (.deassertHostIrq .pia)) =
        .next (stepped (aboutToFire.emit (.deassertHostIrq .pia))) := by
  refine ⟨fun _ => ⟨fun l h => ?_, fun l h => ?_⟩, rfl, rfl⟩
  · exact (Option.some.inj h).symm
  · cases h

theorem witness_ResetClearsAllButConfiguration : (withPhasor counting true true).attached = true := rfl

theorem witness_DetachAdmitsOnlyAttach :
    counting.attached = true ∧ gone.attached = false ∧ ∀ e m, Instr.done ≠ .attach e m := by decide

theorem witness_ConfigSetsPhasorStateOnly : counting.attached = true := rfl

theorem witness_SnapshotSaveReturnsTheBlock : counting.attached = true := rfl

theorem witness_SnapshotRestoreRecomputesSummaries : State.reset.attached = true ∧ counting.blk.Typed := by decide

theorem witness_SnapshotRoundTrip : counting.attached = true ∧ counting.Summary ∧ counting.blk.Typed := by decide

theorem witness_ControlRegisterWritesStore : counting.attached = true := rfl

theorem witness_LatchLowWritesStore : counting.attached = true := rfl

theorem witness_PortAWritesStoreMasked : counting.attached = true := rfl

theorem witness_PortBWriteInSpeechDataMode :
    ∃ s : State, s.attached = true ∧ (s.dev 0).ddrb = 0xFF#8 ∧ (s.dev 0).pcr = 0xB0#8 :=
  ⟨withDev 0 fun x => { x with ddrb := 0xFF#8, pcr := 0xB0#8 }, by decide⟩

theorem witness_PortBWriteDrivesSelectedChips :
    ∀ s ∈ [s1, withPhasor s1 true true],
      s.attached = true ∧ ¬((s.dev 0).ddrb = 0xFF#8 ∧ (s.dev 0).pcr = 0xB0#8) ∧
        ∃ (cw : Byte) (selected : ChipIx → Bool),
          cw = (if s.params.portDdrMask then 0x06#8 &&& (s.dev 0).ddrb else 0x06#8) ∧
            ∀ k, selected k =
              if s.blk.phasorEnable && s.blk.phasorMode then !cw.getLsbD (3 + k.val) else k.val == 0 := by
  have h : ∀ s ∈ [s1, withPhasor s1 true true],
      s.attached = true ∧ ¬((s.dev 0).ddrb = 0xFF#8 ∧ (s.dev 0).pcr = 0xB0#8) := by decide
  exact fun s hs => ⟨(h s hs).1, (h s hs).2, _, _, rfl, fun _ => rfl⟩

theorem witness_TimerOneCounterHighWriteLoadsAndArms :
    counting.attached = true ∧
      ∃ w : Half, w = ((0x12#8 : Byte).setWidth 16 <<< 8) ||| ((counting.dev 0).t1l &&& 0x00FF#16) := ⟨rfl, _, rfl⟩

theorem witness_TimerOneLatchHighWriteOnlyClearsFlag : counting.attached = true := rfl

theorem witness_TimerTwoHighWriteLoadsAndStarts :
    counting.attached = true ∧
      ∃ w : Half, w = ((0x12#8 : Byte).setWidth 16 <<< 8) ||| ((counting.dev 0).t2l &&& 0x00FF#16) := ⟨rfl, _, rfl⟩

theorem witness_FlagWriteClearsNamedCauses : flagged.attached = true := rfl

theorem witness_EnableWriteAddsOrRemovesMask :
    flagged.attached = true ∧ (0x80#8 : Byte).getLsbD 7 = true ∧ (0x7F#8 : Byte).getLsbD 7 = false := by decide

theorem witness_PlainReadsReturnTheRegister : counting.attached = true := rfl

theorem witness_PortAAndSerialReads : counting.attached = true := rfl

theorem witness_CounterLowReadsAcknowledge : counting.attached = true := rfl

theorem witness_TickCountsAndFires :
    (running 0#16 0x40#8).attached = true ∧ 0xFFFF ≤ 0xFFFF ∧
      ∃ under₁ under₂ : DevIx → Bool,
        (∀ d, under₁ d = (decide ((running 0#16 0x40#8).blk.timerOwner = some d) &&
          decide (0xFFFF > ((running 0#16 0x40#8).dev d).t1c.toNat))) ∧
        (∀ d, under₂ d = (((running 0#16 0x40#8).dev d).t2Armed &&
          decide (0xFFFF > ((running 0#16 0x40#8).dev d).t2c.toNat))) ∧
        under₁ 0 = true := ⟨rfl, by decide, _, _, fun _ => rfl, fun _ => rfl, by decide⟩

theorem witness_TimerOneFlagSetOnlyByOwnersTick :
    exec (.tick 1) (running 0#16 0x40#8) = .next (after (.tick 1) (running 0#16 0x40#8)) ∧
      ((running 0#16 0x40#8).dev 0).ifr.getLsbD 6 = false ∧
      ((after (.tick 1) (running 0#16 0x40#8)).dev 0).ifr.getLsbD 6 = true := ⟨rfl, by decide, by decide⟩

theorem witness_UpdatePeriodFallsBack :
    State.reset.blk.timerOwner = none ∧ (running 0#16 0x40#8).blk.timerOwner = some 0 := by decide

theorem witness_PlainSpeechWritesStore : counting.attached = true := rfl

theorem witness_ControlWriteRelatchesOnFallingEdge :
    aboutToLatch.attached = true ∧ (aboutToLatch.dev 1).spCtrl.getLsbD 7 = true ∧ (0x7F#8 : Byte).getLsbD 7 = false := by
  decide

theorem witness_ModeLatchedOnlyOnControlEdge :
    exec (.swCtrl 1 0#8) aboutToLatch = .next (after (.swCtrl 1 0#8) aboutToLatch) ∧
      Instr.swCtrl 1 0#8 ≠ .reset ∧ Instr.swCtrl 1 0#8 ≠ .detach ∧ (∀ e m, Instr.swCtrl 1 0#8 ≠ .attach e m) ∧
      (∀ S, Instr.swCtrl 1 0#8 ≠ .snaprestore S) ∧
      ((after (.swCtrl 1 0#8) aboutToLatch).dev 1).spCur &&& 0xC0#8 ≠ (aboutToLatch.dev 1).spCur &&& 0xC0#8 :=
  ⟨rfl, by decide, by decide, by decide, nofun, by decide⟩

theorem witness_SpeechReadsReturnThePin :
    aboutToEnd.attached = true ∧
      ∃ b : Byte, b = if (aboutToEnd.dev 1).spCur.getLsbD 0 then 0x80#8 else 0x00#8 := ⟨rfl, _, rfl⟩

theorem witness_PhonemeWriteWithPhasorDisabled :
    aboutToEnd.attached = true ∧ aboutToEnd.blk.phasorEnable = false := by decide

/-- Phoneme code 0 while a phoneme plays, and code 0 while none does. -/
theorem witness_PhonemeWriteWithPhasorEnabled :
    ∀ s ∈ [withPhasor aboutToEnd true false, withPhasor State.reset true true],
      s.attached = true ∧ s.blk.phasorEnable = true := by decide

theorem witness_DoneWithNothingPlaying : counting.attached = true ∧ counting.blk.activePhoneme = none := by decide

/-- One state for each clause: the Votrax route, IRQ-disabled, Phasor enabled, Phasor disabled, and no owner. -/
theorem witness_DoneCompletesThePhoneme :
    ∀ s ∈ [withPhoneme State.reset 0x25#6 0 true, withPhoneme State.reset 5#6 1 false,
        withPhasor aboutToEnd true false, aboutToEnd, withBlk aboutToEnd fun b => { b with speechOwner := none }],
      s.attached = true ∧ ∃ p, s.blk.activePhoneme = some p := by
  intro s hs
  simp only [List.mem_cons, List.not_mem_nil, or_false] at hs
  rcases hs with rfl | rfl | rfl | rfl | rfl <;> exact ⟨rfl, _, rfl⟩

theorem witness_InactiveAndReadFunctionsDoNothing : s1.attached = true := rfl

/-- In sound-generator-control mode and in speech-data mode. -/
theorem witness_LatchFunctionIgnoresLargeAddresses : s1.attached = true ∧ s1Speech.attached = true := ⟨rfl, rfl⟩

/-- The first chip, and the second outside native mode and in it, and a device in speech-data mode. -/
theorem witness_ResetAndWriteFunctionsReachOneChip :
    ∀ s ∈ [s1, withPhasor s1 true true, s1Speech], s.attached = true ∧
      ∀ k : ChipIx, ∃ reached : Bool,
        reached = ((s.blk.phasorEnable && s.blk.phasorMode || k == 0) &&
          !((s.dev 0).ddrb == 0xFF#8 && (s.dev 0).pcr == 0xB0#8)) :=
  fun s hs => ⟨by revert s; decide, fun _ => ⟨_, rfl⟩⟩

/-- Each clause at the ends of its ranges, on both cards. -/
theorem witness_ClassicWindowIsTheRegisterAccess :
    State.reset.attached = true ∧ (State.reset.blk.phasorEnable && State.reset.blk.phasorMode) = false ∧
      (∀ c ∈ ([0#8, 1#8] : List Byte), c.toNat ≤ 1 ∧ ∃ a b : DevIx, a.val = 2 * c.toNat ∧ b.val = 2 * c.toNat + 1) ∧
      (∀ off ∈ ([0x00#8, 0x0F#8] : List Byte), off.toNat ≤ 0x0F) ∧
      (∀ off ∈ ([0x40#8, 0x44#8] : List Byte), 0x40 ≤ off.toNat ∧ off.toNat ≤ 0x44) ∧
      (∀ off ∈ ([0x80#8, 0x8F#8] : List Byte), 0x80 ≤ off.toNat ∧ off.toNat ≤ 0x8F) ∧
      ∀ off ∈ ([0x10#8, 0x3F#8, 0x45#8, 0x7F#8, 0x90#8, 0xFF#8] : List Byte),
        ¬off.toNat ≤ 0x0F ∧ ¬(0x40 ≤ off.toNat ∧ off.toNat ≤ 0x44) ∧ ¬(0x80 ≤ off.toNat ∧ off.toNat ≤ 0x8F) := by
  decide

theorem witness_NativeWindowReachesSelectedDevices :
    (withPhasor counting true true).attached = true ∧
      ((withPhasor counting true true).blk.phasorEnable && (withPhasor counting true true).blk.phasorMode) = true ∧
      (1#8 : Byte).toNat ≤ 1 ∧ (2 : DevIx).val = 2 * (1#8 : Byte).toNat ∧ (3 : DevIx).val = 2 * (1#8 : Byte).toNat + 1 := by
  decide

theorem witness_WindowRangesReachTheirRegisters :
    counting.attached = true ∧ (2 : DevIx).val = 2 * (1 : CardIx).val ∧ (3 : DevIx).val = 2 * (1 : CardIx).val + 1 := by
  decide

/-- The window in each of its ranges, and in native mode at an offset of none. -/
theorem witness_EveryOperationInDomainCompletes :
    (∀ off ∈ ([0x0F#8, 0x40#8, 0x44#8, 0x80#8, 0x8F#8] : List Byte),
      State.reset.attached = true ∧ Instr.wellFormed (.busr 1#8 off) = true ∧
        ((State.reset.blk.phasorEnable && State.reset.blk.phasorMode) = true ∨ off.toNat ≤ 0x0F ∨
          (0x40 ≤ off.toNat ∧ off.toNat ≤ 0x44) ∨ (0x80 ≤ off.toNat ∧ off.toNat ≤ 0x8F))) ∧
      ((withPhasor State.reset true true).attached = true ∧ Instr.wellFormed (.busw 1#8 0xFF#8 0#8) = true ∧
        ((withPhasor State.reset true true).blk.phasorEnable && (withPhasor State.reset true true).blk.phasorMode) =
          true) := by decide

theorem witness_ContractViolationsRefused :
    State.reset.attached = true ∧ 0x10000 > 0xFFFF ∧ (2#8 : Byte).toNat > 1 ∧ ¬oddOwner.Typed ∧ ¬topEnable.Typed := by
  decide

theorem witness_RegisterAccessTouchesOneDevice :
    counting.Summary ∧ piaReadInstr 4#4 0 = .rT1cl 0 ∧ exec (.rT1cl 0) counting = .next (after (.rT1cl 0) counting) ∧
      (1 : DevIx) ≠ 0 := ⟨by decide, rfl, rfl, by decide⟩

theorem witness_PiaLevelIsAnyEnabledCause : flagged.Summary ∧ flagged.blk.piaIrqLevel = true := by decide

theorem witness_OpenParametersMeetConstraints : psgIndex 3 1 = psgIndex 3 1 := rfl

theorem witness_PlainStorageIsInvisible :
    Instr.done ≠ .snapsave ∧ (withDev 2 fun x => { x with spFilt := 0x56#8 }).erasePlain = State.reset.erasePlain ∧
      exec .done (withDev 2 fun x => { x with spFilt := 0x56#8 }) =
        .next (after .done (withDev 2 fun x => { x with spFilt := 0x56#8 })) := ⟨by decide, by decide, rfl⟩

theorem witness_SecondChipKeptOutsideNativeMode :
    (s1.blk.phasorEnable && s1.blk.phasorMode) = false ∧
      exec (.wOrb 0 0x00#8) s1 = .next (after (.wOrb 0 0x00#8) s1) ∧ Instr.wOrb 0 0x00#8 ≠ .reset ∧
      Instr.wOrb 0 0x00#8 ≠ .detach ∧ (∀ e m, Instr.wOrb 0 0x00#8 ≠ .attach e m) ∧
      ∀ S, Instr.wOrb 0 0x00#8 ≠ .snaprestore S := ⟨rfl, rfl, by decide, by decide, by decide, nofun⟩

theorem witness_SpeechDataModeShieldsTheChips :
    (s1Speech.dev 0).ddrb = 0xFF#8 ∧ (s1Speech.dev 0).pcr = 0xB0#8 ∧
      exec (.wOrb 0 0x00#8) s1Speech = .next (after (.wOrb 0 0x00#8) s1Speech) ∧ Instr.wOrb 0 0x00#8 ≠ .reset ∧
      Instr.wOrb 0 0x00#8 ≠ .detach ∧ (∀ e m, Instr.wOrb 0 0x00#8 ≠ .attach e m) ∧
      ∀ S, Instr.wOrb 0 0x00#8 ≠ .snaprestore S := ⟨rfl, rfl, rfl, by decide, by decide, by decide, nofun⟩

end Sys2Proof.Tests
end

section
/-! What a completed operation has done, where Laws/ does not say it yet: the inversion lemmas of the operations with a
guard of their own. -/

namespace Sys2Proof.Machine

/-- All that an operation of an attached block can do: run there. -/
theorem whenAttached_next {k : State → Answer} {s t : State} (h : whenAttached s k = .next t) :
    s.attached = true ∧ k s = .next t := by
  cases ha : s.attached <;> simp_all [whenAttached]

/-- A completed tick had a count in range (41_timer_engine.md R142). -/
theorem execTick_next {n : Nat} {s t : State} (h : execTick n s = .next t) :
    s.attached = true ∧ n ≤ tickMax ∧ t = (tickBy (BitVec.ofNat 16 n) s).returns none := by
  obtain ⟨ha, h⟩ := whenAttached_next h
  split at h
  · cases h
  · cases h
    exact ⟨ha, by omega, rfl⟩

/-- A completed save only answered the block (45_system_ops.md R211). -/
theorem execSnapsave_next {s t : State} (h : execSnapsave s = .next t) :
    s.attached = true ∧ t = s.returns (some (.snapshot s.blk)) := by
  obtain ⟨ha, h⟩ := whenAttached_next h
  cases h
  exact ⟨ha, rfl⟩

/-- A completed restore was of a snapshot that type-checks (45_system_ops.md R212). -/
theorem execSnaprestore_next {S : Block} {s t : State} (h : execSnaprestore S s = .next t) :
    s.attached = true ∧ S.typeOk = true ∧ t = (restoreBlock S s).returns none := by
  obtain ⟨ha, h⟩ := whenAttached_next h
  split at h
  next hS =>
    cases h
    exact ⟨ha, hS, rfl⟩
  next => cases h

/-- A completed read through the window named a card, and was a native read or the read of one target
(45_system_ops.md R213). -/
theorem execBusr_next {c off : Byte} {s t : State} (h : execBusr c off s = .next t) :
    ∃ card, cardOf c = some card ∧
      (s.blk.nativeMode = true ∧ answers (nativeRead (selectsA off) (selectsB off) card off) s = .next t ∨
        s.blk.nativeMode = false ∧
          ∃ tgt, windowTarget card off = some tgt ∧ answers (readTarget tgt) s = .next t) := by
  obtain ⟨-, h⟩ := whenAttached_next h
  split at h
  next => cases h
  next card hc =>
    refine ⟨card, hc, ?_⟩
    split at h
    next hn => exact .inl ⟨hn, h⟩
    next hn =>
      split at h
      next tgt ht => exact .inr ⟨Bool.eq_false_iff.mpr hn, tgt, ht, h⟩
      next => cases h

/-- A completed write through the window named a card, and was a native write or the write of one target
(45_system_ops.md R214). -/
theorem execBusw_next {c off v : Byte} {s t : State} (h : execBusw c off v s = .next t) :
    ∃ card, cardOf c = some card ∧
      (s.blk.nativeMode = true ∧ performs (nativeWrite (selectsA off) (selectsB off) card off v) s = .next t ∨
        s.blk.nativeMode = false ∧
          ∃ tgt, windowTarget card off = some tgt ∧ performs (writeTarget v tgt) s = .next t) := by
  obtain ⟨-, h⟩ := whenAttached_next h
  split at h
  next => cases h
  next card hc =>
    refine ⟨card, hc, ?_⟩
    split at h
    next hn => exact .inl ⟨hn, h⟩
    next hn =>
      split at h
      next tgt ht => exact .inr ⟨Bool.eq_false_iff.mpr hn, tgt, ht, h⟩
      next => cases h

end Sys2Proof.Machine
end

section
/-! The step induction, packaged once: a predicate that every part of an operation keeps is kept by every step. A
part is a register access, a PSG function, or the effect of a system operation; the window operations are made of
register accesses. The restore of a snapshot stands apart, because several invariants of 10_state.md leave it out. -/

namespace Sys2Proof.Machine

/-- Every part of an operation keeps `P`, a snapshot restore left aside. -/
structure KeptByParts (P : State → Prop) : Prop where
  /-- Taking the tokens of an operation off the input (log entry 1). -/
  input : ∀ s rest, P s → P { s with input := rest }
  /-- Answering a result (log entry 3). -/
  returns : ∀ s r, P s → P (s.returns r)
  regRead : ∀ d r s, P s → P (regRead d r s).1
  regWrite : ∀ d r v s, P s → P (regWrite d r v s)
  spWrite : ∀ d r v s, P s → P (spWrite d r v s)
  psgReset : ∀ d k s, P s → P (psgResetChip d k s)
  psgWrite : ∀ d k s, P s → P (psgWriteChip d k s)
  psgLatch : ∀ d s, P s → P (psgLatchReg d s)
  tick : ∀ n s, P s → P (tickBy n s)
  done : ∀ s, P s → P (phonemeDone s)
  reset : ∀ s, P s → P (resetBlock s)
  config : ∀ e m s, P s → P (configure e m s)
  attach : ∀ e m s, P s → P (attachBlock e m s)
  detach : ∀ s, P s → P (detachBlock s)

namespace KeptByParts

variable {P : State → Prop} {s t : State}

/-! ## From a part to an operation -/

theorem of_performs (h : KeptByParts P) {f : State → State} (hf : P s → P (f s)) (hs : P s)
    (hx : performs f s = .next t) : P t := by
  obtain ⟨-, rfl⟩ := performs_next hx
  exact h.returns _ _ (hf hs)

theorem of_answers (h : KeptByParts P) {f : State → State × Byte} (hf : P s → P (f s).1) (hs : P s)
    (hx : answers f s = .next t) : P t := by
  obtain ⟨-, rfl⟩ := answers_next hx
  exact h.returns _ _ (hf hs)

theorem of_regWrite (h : KeptByParts P) (d : DevIx) (r : BitVec 4) (v : Byte) (hs : P s)
    (hx : performs (Machine.regWrite d r v) s = .next t) : P t :=
  h.of_performs (h.regWrite d r v s) hs hx

theorem of_regRead (h : KeptByParts P) (d : DevIx) (r : BitVec 4) (hs : P s)
    (hx : answers (Machine.regRead d r) s = .next t) : P t :=
  h.of_answers (h.regRead d r s) hs hx

theorem of_spWrite (h : KeptByParts P) (d : DevIx) (r : Fin 5) (v : Byte) (hs : P s)
    (hx : performs (Machine.spWrite d r v) s = .next t) : P t :=
  h.of_performs (h.spWrite d r v s) hs hx

/-- A speech read changes nothing (43_speech.md R185). -/
theorem of_spRead (h : KeptByParts P) (d : DevIx) (r : Fin 5) (hs : P s)
    (hx : answers (spRead d r) s = .next t) : P t :=
  h.of_answers id hs hx

/-- A PSG function run alone does what it does in the decoder, or nothing (log entry 9). -/
theorem of_inDecoder (h : KeptByParts P) (d : DevIx) {f : State → State} (hf : P s → P (f s)) (hs : P s)
    (hx : performs (inDecoder d f) s = .next t) : P t := by
  refine h.of_performs (fun hs => ?_) hs hx
  obtain ⟨-, he⟩ | ⟨-, he⟩ := inDecoder_cases d f s
  · rw [he]; exact hf hs
  · rw [he]; exact hs

theorem of_onReachedChip {k : ChipIx} {f : State → State} (hf : P s → P (f s)) (hs : P s) :
    P (onReachedChip k f s) := by
  obtain ⟨-, he⟩ | ⟨-, he⟩ := onReachedChip_cases k f s
  · rw [he]; exact hf hs
  · rw [he]; exact hs

/-! ## The window -/

theorem of_readTarget (h : KeptByParts P) (tgt : Target) (hs : P s) : P (readTarget tgt s).1 := by
  cases tgt with
  | pia d r => exact h.regRead d r s hs
  | speech d r => exact hs

theorem of_writeTarget (h : KeptByParts P) (v : Byte) (tgt : Target) (hs : P s) : P (writeTarget v tgt s) := by
  cases tgt with
  | pia d r => exact h.regWrite d r v s hs
  | speech d r => exact h.spWrite d r v s hs

theorem of_readIf {sel : Bool} {f : State → State × Byte} {before : State × Byte} (hf : ∀ s, P s → P (f s).1)
    (hb : P before.1) : P (readIf sel f before).1 := by
  cases sel with
  | false => exact hb
  | true => exact hf _ hb

theorem of_writeIf {sel : Bool} {f : State → State} (hf : ∀ s, P s → P (f s)) (hs : P s) :
    P (writeIf sel f s) := by
  cases sel with
  | false => exact hs
  | true => exact hf _ hs

theorem of_nativeRead (h : KeptByParts P) (selA selB : Bool) (c : CardIx) (off : Byte) (hs : P s) :
    P (nativeRead selA selB c off s).1 := by
  have hA := of_readIf (sel := selA) (before := (s, 0#8)) (h.regRead (cardA c) (off.setWidth 4)) hs
  have hB := of_readIf (sel := selB) (h.regRead (cardB c) (off.setWidth 4)) hA
  unfold nativeRead
  cases speechRegAt off with
  | none => exact hB
  | some r => exact hB

theorem of_nativeWrite (h : KeptByParts P) (selA selB : Bool) (c : CardIx) (off v : Byte) (hs : P s) :
    P (nativeWrite selA selB c off v s) := by
  have hA := of_writeIf (sel := selA) (h.regWrite (cardA c) (off.setWidth 4) v) hs
  have hB := of_writeIf (sel := selB) (h.regWrite (cardB c) (off.setWidth 4) v) hA
  unfold nativeWrite
  cases speechRegAt off with
  | none => exact hB
  | some r => exact h.spWrite (cardB c) r v _ hB

theorem of_accessTarget (h : KeptByParts P) (tgt : Target) (a : Access) (hs : P s)
    (hx : accessTarget tgt a s = .next t) : P t := by
  cases a with
  | read => exact h.of_answers (h.of_readTarget tgt) hs hx
  | write v => exact h.of_performs (h.of_writeTarget v tgt) hs hx

theorem of_busr (h : KeptByParts P) {c off : Byte} (hs : P s) (hx : execBusr c off s = .next t) : P t := by
  obtain ⟨card, -, ⟨-, hx⟩ | ⟨-, tgt, -, hx⟩⟩ := execBusr_next hx
  · exact h.of_answers (h.of_nativeRead _ _ card off) hs hx
  · exact h.of_answers (h.of_readTarget tgt) hs hx

theorem of_busw (h : KeptByParts P) {c off v : Byte} (hs : P s) (hx : execBusw c off v s = .next t) : P t := by
  obtain ⟨card, -, ⟨-, hx⟩ | ⟨-, tgt, -, hx⟩⟩ := execBusw_next hx
  · exact h.of_performs (h.of_nativeWrite _ _ card off v) hs hx
  · exact h.of_performs (h.of_writeTarget v tgt) hs hx

/-! ## Every operation, every step -/

/-- Every completed operation keeps `P`, if a restore of a snapshot that type-checks does. -/
theorem of_exec (h : KeptByParts P) {i : Instr}
    (hrestore : ∀ S, i = .snaprestore S → S.typeOk = true → P (restoreBlock S s)) (hs : P s)
    (hx : exec i s = .next t) : P t := by
  cases i with
  | wOrb d v => exact h.of_regWrite d 0 v hs hx
  | wOra d v => exact h.of_regWrite d 1 v hs hx
  | wDdrb d v => exact h.of_regWrite d 2 v hs hx
  | wDdra d v => exact h.of_regWrite d 3 v hs hx
  | wT1cl d v => exact h.of_regWrite d 4 v hs hx
  | wT1ch d v => exact h.of_regWrite d 5 v hs hx
  | wT1ll d v => exact h.of_regWrite d 6 v hs hx
  | wT1lh d v => exact h.of_regWrite d 7 v hs hx
  | wT2l d v => exact h.of_regWrite d 8 v hs hx
  | wT2h d v => exact h.of_regWrite d 9 v hs hx
  | wSr d v => exact h.of_regWrite d 10 v hs hx
  | wAcr d v => exact h.of_regWrite d 11 v hs hx
  | wPcr d v => exact h.of_regWrite d 12 v hs hx
  | wIfr d v => exact h.of_regWrite d 13 v hs hx
  | wIer d v => exact h.of_regWrite d 14 v hs hx
  | wOran d v => exact h.of_regWrite d 15 v hs hx
  | rOrb d => exact h.of_regRead d 0 hs hx
  | rOra d => exact h.of_regRead d 1 hs hx
  | rDdrb d => exact h.of_regRead d 2 hs hx
  | rDdra d => exact h.of_regRead d 3 hs hx
  | rT1cl d => exact h.of_regRead d 4 hs hx
  | rT1ch d => exact h.of_regRead d 5 hs hx
  | rT1ll d => exact h.of_regRead d 6 hs hx
  | rT1lh d => exact h.of_regRead d 7 hs hx
  | rT2l d => exact h.of_regRead d 8 hs hx
  | rT2h d => exact h.of_regRead d 9 hs hx
  | rSr d => exact h.of_regRead d 10 hs hx
  | rAcr d => exact h.of_regRead d 11 hs hx
  | rPcr d => exact h.of_regRead d 12 hs hx
  | rIfr d => exact h.of_regRead d 13 hs hx
  | rIer d => exact h.of_regRead d 14 hs hx
  | rOran d => exact h.of_regRead d 15 hs hx
  | swDurphon d v => exact h.of_spWrite d 0 v hs hx
  | swInflect d v => exact h.of_spWrite d 1 v hs hx
  | swRateinf d v => exact h.of_spWrite d 2 v hs hx
  | swCtrl d v => exact h.of_spWrite d 3 v hs hx
  | swFilt d v => exact h.of_spWrite d 4 v hs hx
  | srDurphon d => exact h.of_spRead d 0 hs hx
  | srInflect d => exact h.of_spRead d 1 hs hx
  | srRateinf d => exact h.of_spRead d 2 hs hx
  | srCtrl d => exact h.of_spRead d 3 hs hx
  | srFilt d => exact h.of_spRead d 4 hs hx
  | tick n =>
    obtain ⟨-, -, rfl⟩ := execTick_next hx
    exact h.returns _ _ (h.tick _ s hs)
  | done => exact h.of_performs (h.done s) hs hx
  | reset => exact h.of_performs (h.reset s) hs hx
  | config e m => exact h.of_performs (h.config e m s) hs hx
  | attach e m =>
    cases hx
    exact h.returns _ _ (h.attach e m s hs)
  | detach => exact h.of_performs (h.detach s) hs hx
  | snapsave =>
    obtain ⟨-, rfl⟩ := execSnapsave_next hx
    exact h.returns _ _ hs
  | snaprestore S =>
    obtain ⟨-, hS, rfl⟩ := execSnaprestore_next hx
    exact h.returns _ _ (hrestore S rfl hS)
  | busr c off => exact h.of_busr hs hx
  | busw c off v => exact h.of_busw hs hx
  | psgReset lo d k => exact h.of_inDecoder d (of_onReachedChip (h.psgReset d k s)) hs hx
  | psgInactive d k | psgRead d k => exact h.of_performs id hs hx
  | psgWrite d k => exact h.of_inDecoder d (of_onReachedChip (h.psgWrite d k s)) hs hx
  | psgLatch d k => exact h.of_inDecoder d (h.psgLatch d s) hs hx
  | winPiaA c reg a | winSpeech03 c reg a | winSpeech4 c a | winPiaB c reg a => exact h.of_accessTarget _ a hs hx

/-- Every step keeps `P`, if a restore of a snapshot that type-checks does. -/
theorem of_step (h : KeptByParts P)
    (hrestore : ∀ S rest, decode s.input = .ok (.snaprestore S, rest) → S.typeOk = true →
      P (restoreBlock S { s with input := rest }))
    (hs : P s) (hx : step s = .next t) : P t := by
  obtain ⟨-, rfl⟩ | ⟨i, rest, hd, hx⟩ := step_next hx
  · exact hs
  · refine h.of_exec (fun S hi hS => hrestore S rest ?_ hS) (h.input s rest hs) hx
    rw [hd, hi]

end KeptByParts

end Sys2Proof.Machine
end

section
/-! Invariant SUMMARY (10_state.md R16). A part of an operation either changes no IFR and no IER, or ends with the
aggregator, which makes every summary bit right (60_exceptions.md R230). -/

namespace Sys2Proof.Machine

/-! ## Parts that change no IFR and no IER -/

/-- Every device has the IFR and the IER it had. -/
def FlagsKept (s t : State) : Prop := ∀ d, (t.dev d).ifr = (s.dev d).ifr ∧ (t.dev d).ier = (s.dev d).ier

theorem FlagsKept.summary {s t : State} (h : FlagsKept s t) (hs : s.Summary) : t.Summary := fun d => by
  obtain ⟨hifr, hier⟩ := h d
  unfold Device.SummaryOk
  rw [hifr, hier]
  exact hs d

theorem FlagsKept.of_dev {s t : State} (h : ∀ d, t.dev d = s.dev d) : FlagsKept s t := fun d => by
  rw [h d]
  exact ⟨rfl, rfl⟩

theorem FlagsKept.modDev (s : State) (d : DevIx) {f : Device → Device}
    (hf : (f (s.dev d)).ifr = (s.dev d).ifr ∧ (f (s.dev d)).ier = (s.dev d).ier) : FlagsKept s (s.modDev d f) := by
  intro e
  by_cases he : e = d
  · subst he
    rw [State.dev_modDev_self]
    exact hf
  · rw [State.dev_modDev_of_ne _ _ _ _ he]
    exact ⟨rfl, rfl⟩

theorem PsgFrame.flagsKept {d : DevIx} {s t : State} (h : PsgFrame d s t) : FlagsKept s t := by
  intro e
  by_cases he : e = d
  · subst he
    rw [h.items]
    exact ⟨rfl, rfl⟩
  · rw [h.others e he]
    exact ⟨rfl, rfl⟩

theorem summary_modDev {s : State} (hs : s.Summary) (d : DevIx) {f : Device → Device}
    (hf : (f (s.dev d)).ifr = (s.dev d).ifr ∧ (f (s.dev d)).ier = (s.dev d).ier) : (s.modDev d f).Summary :=
  (FlagsKept.modDev s d hf).summary hs

theorem summary_arm {s : State} (hs : s.Summary) (d : DevIx) : (arm d s).Summary :=
  (FlagsKept.of_dev fun e => arm_dev d e s).summary hs

theorem summary_stop {s : State} (hs : s.Summary) (d : DevIx) : (stop d s).Summary :=
  (FlagsKept.of_dev fun e => stop_dev d e s).summary hs

theorem summary_setSpeechLine {s : State} (hs : s.Summary) (level : Bool) : (setSpeechLine level s).Summary :=
  (FlagsKept.of_dev (setSpeechLine_dev level s)).summary hs

theorem summary_play {s : State} (hs : s.Summary) (d : DevIx) (code : Phoneme) (via : Bool) :
    (play d code via s).Summary :=
  (FlagsKept.of_dev (play_dev d code via s)).summary hs

/-! ## Register accesses -/

/-- A write of port B stores the port value and then dispatches a phoneme, clearing a flag, or runs the sound-generator
decoder (40_pia_registers.md R102). -/
theorem writeOrb_summary (d : DevIx) (v : Byte) {s : State} (hs : s.Summary) : (writeOrb d v s).Summary := by
  unfold writeOrb
  dsimp only
  split
  · exact summary_play (clearFlags_summary d _ _) d _ true
  · exact (psgDecode_frame d _ _).flagsKept.summary (summary_modDev hs d ⟨rfl, rfl⟩)

/-- A write of IER recomputes, and then arms or stops timer 1 (40_pia_registers.md R116). -/
theorem writeIer_summary (d : DevIx) (v : Byte) (s : State) : (writeIer d v s).Summary := by
  unfold writeIer
  dsimp only
  split
  · exact summary_arm (recompute_summary _) d
  · split
    · exact recompute_summary _
    · exact summary_stop (recompute_summary _) d

/-- The registers in the order of their indices (30_encoding.md R61): a plain store changes no flag, and the others are
ORB, T1CH, T1LH, T2H, SR, IFR and IER. -/
theorem regWrite_summary (d : DevIx) (r : BitVec 4) (v : Byte) {s : State} (hs : s.Summary) :
    (regWrite d r v s).Summary := by
  have store : ∀ {f : Device → Device}, (f (s.dev d)).ifr = (s.dev d).ifr ∧ (f (s.dev d)).ier = (s.dev d).ier →
      (s.modDev d f).Summary := summary_modDev hs d
  obtain ⟨⟨r, hr⟩⟩ := r
  interval_cases r
  exacts [writeOrb_summary d v hs, store ⟨rfl, rfl⟩, store ⟨rfl, rfl⟩, store ⟨rfl, rfl⟩,
    store ⟨rfl, rfl⟩, summary_arm (clearFlags_summary d _ _) d, store ⟨rfl, rfl⟩, clearFlags_summary d _ _,
    store ⟨rfl, rfl⟩, summary_modDev (clearFlags_summary d _ _) d ⟨rfl, rfl⟩, hs, store ⟨rfl, rfl⟩,
    store ⟨rfl, rfl⟩, clearFlags_summary d v s, writeIer_summary d v s, store ⟨rfl, rfl⟩]

/-- The registers in the order of their indices: the reads of T1CL and T2L clear a flag, the others change nothing
(40_pia_registers.md R124, R128). -/
theorem regRead_summary (d : DevIx) (r : BitVec 4) {s : State} (hs : s.Summary) : (regRead d r s).1.Summary := by
  obtain ⟨⟨r, hr⟩⟩ := r
  interval_cases r
  exacts [hs, hs, hs, hs, clearFlags_summary d _ s, hs, hs, hs, clearFlags_summary d _ s, hs, hs, hs, hs, hs, hs, hs]

theorem clearSpeechCondition_summary (d : DevIx) {s : State} (hs : s.Summary) : (clearSpeechCondition d s).Summary := by
  cases he : s.blk.phasorEnable with
  | false =>
    rw [clearSpeechCondition_disabled he]
    exact summary_modDev (clearFlags_summary d _ s) d ⟨rfl, rfl⟩
  | true =>
    rw [clearSpeechCondition_enabled he]
    exact summary_modDev (summary_setSpeechLine hs false) d ⟨rfl, rfl⟩

theorem writeDurPhon_summary (d : DevIx) (v : Byte) {s : State} (hs : s.Summary) : (writeDurPhon d v s).Summary := by
  have stored : ((clearSpeechCondition d s).modDev d fun x => { x with spDurPhon := v }).Summary :=
    summary_modDev (clearSpeechCondition_summary d hs) d ⟨rfl, rfl⟩
  unfold writeDurPhon
  dsimp only
  split
  · exact stored
  · exact summary_play stored d _ false

theorem writeCtrl_summary (d : DevIx) (v : Byte) {s : State} (hs : s.Summary) : (writeCtrl d v s).Summary := by
  unfold writeCtrl
  dsimp only
  split
  · exact summary_modDev (s := relatch d s) (summary_modDev hs d ⟨rfl, rfl⟩) d ⟨rfl, rfl⟩
  · exact summary_modDev hs d ⟨rfl, rfl⟩

theorem spWrite_summary (d : DevIx) (r : Fin 5) (v : Byte) {s : State} (hs : s.Summary) :
    (spWrite d r v s).Summary := by
  unfold spWrite
  split
  case h_1 => exact writeDurPhon_summary d v hs
  case h_4 => exact writeCtrl_summary d v hs
  all_goals exact summary_modDev hs d ⟨rfl, rfl⟩

/-! ## The tick and the completion of a phoneme -/

/-- A device neither of whose timers passes below zero keeps its flags. -/
theorem ticked_flags {s : State} {n : Half} {d : DevIx} (h1 : under1 s n d = false) (h2 : under2 s n d = false) :
    (ticked s n d).ifr = (s.dev d).ifr ∧ (ticked s n d).ier = (s.dev d).ier := by
  simp [ticked, h1, h2]

/-- A tick recomputes where it sets a flag, and where it sets none it changes no flag (41_timer_engine.md R142). -/
theorem tickBy_summary (n : Half) {s : State} (hs : s.Summary) : (tickBy n s).Summary := by
  have mem : ∀ d : DevIx, d ∈ ([0, 1, 2, 3] : List DevIx) := by decide
  obtain ⟨hdev, -, hfired, -⟩ := tickDevices_spec n [0, 1, 2, 3] s false (by decide)
  unfold tickBy
  split
  · exact recompute_summary _
  next hquiet =>
    have quiet : ∀ d, under1 s n d = false ∧ under2 s n d = false := fun d => by
      refine ⟨Bool.eq_false_iff.mpr fun h => ?_, Bool.eq_false_iff.mpr fun h => ?_⟩
      · exact hquiet (hfired.mpr (.inr ⟨d, mem d, .inl h⟩))
      · exact hquiet (hfired.mpr (.inr ⟨d, mem d, .inr h⟩))
    refine FlagsKept.summary (s := s) (fun d => ?_) hs
    obtain ⟨h1, h2⟩ := quiet d
    have hd : (tickAll n s).1.dev d = ticked s n d := hdev d (mem d)
    rw [hd]
    exact ticked_flags h1 h2

theorem completeNative_summary (d : DevIx) {s : State} (hs : s.Summary) : (completeNative d s).Summary := by
  by_cases hmode : (s.dev d).spCur &&& 0xC0#8 = 0#8
  · rw [completeNative_disabled_mode hmode]
    exact hs
  · cases he : s.blk.phasorEnable with
    | false =>
      rw [completeNative_classic hmode he]
      exact setFlags_summary d _ _
    | true =>
      rw [completeNative_phasor hmode he]
      exact summary_setSpeechLine (summary_modDev hs d ⟨rfl, rfl⟩) true

theorem completionDevice_summary {s : State} (hs : s.Summary) : (completionDevice s).2.Summary := by
  cases ho : s.blk.speechOwner with
  | none =>
    rw [completionDevice_of_none ho]
    exact hs
  | some d =>
    rw [completionDevice_of_owner ho]
    exact hs

theorem phonemeDone_summary {s : State} (hs : s.Summary) : (phonemeDone s).Summary := by
  unfold phonemeDone
  split
  · exact hs
  · have hc := completionDevice_summary (s := { s with blk := { s.blk with activePhoneme := none } }) hs
    dsimp only
    split
    · exact setFlags_summary _ _ _
    · exact completeNative_summary _ hc

/-! ## System operations -/

theorem restoreBlock_summary (S : Block) (s : State) : (restoreBlock S s).Summary :=
  recompute_summary { s with blk := S }

/-- The items of a detached block are zero (log entry 8). -/
theorem detachBlock_summary (s : State) : (detachBlock s).Summary := fun d => by
  show ((Block.zero false false).dev d).SummaryOk
  rw [Block.dev_zero]
  decide

/-! ## Every step -/

theorem summary_keptByParts : KeptByParts State.Summary where
  input _ _ hs := hs
  returns _ _ hs := hs
  regRead d r _ hs := regRead_summary d r hs
  regWrite d r v _ hs := regWrite_summary d r v hs
  spWrite d r v _ hs := spWrite_summary d r v hs
  psgReset d k s hs := (psgResetChip_frame d k s).flagsKept.summary hs
  psgWrite d k s hs := (psgWriteChip_frame d k s).flagsKept.summary hs
  psgLatch d s hs := (psgLatchReg_frame d s).flagsKept.summary hs
  tick n _ hs := tickBy_summary n hs
  done _ hs := phonemeDone_summary hs
  reset _ _ := recompute_summary _
  config _ _ _ hs := hs
  attach _ _ _ _ := recompute_summary _
  detach s _ := detachBlock_summary s

/-- Settles O7: every part of an operation keeps SUMMARY, and a restore recomputes every summary bit. -/
theorem summaryKeptByEveryStep : Obligations.SummaryKeptByEveryStep := by
  intro s t hs hstep
  exact summary_keptByParts.of_step (fun S rest _ _ => restoreBlock_summary S _) hs hstep

end Sys2Proof.Machine
end

section
/-! The writes of PIA registers that store a byte, do nothing, or clear flags (40_pia_registers.md section 2). -/

namespace Sys2Proof.Machine

/-- Where an operation returns no value and the block is attached, what its meaning does is what the operation does
(40_pia_registers.md R118). -/
theorem exec_of_performs {i : Instr} {s : State} {f : State → State} (hs : s.attached = true)
    (hx : exec i s = performs f s) : exec i s = .next ((f s).returns none) :=
  hx.trans (performs_of_attached hs f)

/-- A write that is a change `f` of the items of one device completes and does nothing else. -/
theorem exec_onlyDevice {i : Instr} {s : State} {d : DevIx} {f : Device → Device} (hs : s.attached = true)
    (hx : exec i s = performs (fun s => s.modDev d f) s) :
    ∃ t, exec i s = .next t ∧ OnlyDevice s t d (f (s.dev d)) none :=
  ⟨_, exec_of_performs hs hx, OnlyDevice.modDev s d f none⟩

/-- What flags became does not depend on the result returned. -/
theorem FlagsBecome.returns {s t : State} {d : DevIx} {x : Device} {causes : Byte}
    (h : FlagsBecome s t d x causes) (r : Option Result) : FlagsBecome s (t.returns r) d x causes := h

/-- Settles O22: four of the writes store into one item of the device (R104, R105, R113, R114), and the write of SR is
the identity (R112). -/
theorem controlRegisterWritesStore : Obligations.ControlRegisterWritesStore := by
  intro s d v hs
  refine ⟨?ddrb, ?ddra, ?sr, ?acr, ?pcr⟩
  case ddrb => exact exec_onlyDevice (f := fun x => { x with ddrb := v }) hs rfl
  case ddra => exact exec_onlyDevice (f := fun x => { x with ddra := v }) hs rfl
  case sr => exact ⟨_, exec_of_performs (f := writeSr d v) hs rfl, NothingBut.returns s none⟩
  case acr => exact exec_onlyDevice (f := fun x => { x with acr := v }) hs rfl
  case pcr => exact exec_onlyDevice (f := fun x => { x with pcr := v }) hs rfl

/-- Settles O30: the write of IFR is `ClearFlags(d, v)` (R115), whose only event is the aggregator's, not a normative
output. -/
theorem flagWriteClearsNamedCauses : Obligations.FlagWriteClearsNamedCauses := by
  intro s d v hs
  have completes : exec (.wIfr d v) s = .next ((clearFlags d v s).returns none) :=
    exec_of_performs (f := writeIfr d v) hs rfl
  exact ⟨_, completes, (clearFlags_flags d v s).returns none, clearFlags_globals d v s, clearFlags_model d v s,
    clearFlags_outputs d v s, rfl⟩

end Sys2Proof.Machine
end

section
/-! The meanings of the operations by kind. The 61 arms of `exec` are walked through once, in `exec_meaning`; a proof over
all operations then splits by kind: a PIA access by its register index, a speech access by its register index, and every
other operation by itself. -/

namespace Sys2Proof.Machine

/-- The kinds of operation, each with its meaning. -/
inductive Meaning : Instr → (State → Answer) → Prop
  | piaWrite (r : BitVec 4) (d : DevIx) (v : Byte) : Meaning (piaWriteInstr r d v) (performs (regWrite d r v))
  | piaRead (r : BitVec 4) (d : DevIx) : Meaning (piaReadInstr r d) (answers (regRead d r))
  | speechWrite {i : Instr} (r : Fin 5) (d : DevIx) (v : Byte)
      (hi : speechWriteInstr (BitVec.ofNat 4 r.val) d v = some i) : Meaning i (performs (spWrite d r v))
  | speechRead {i : Instr} (r : Fin 5) (d : DevIx)
      (hi : speechReadInstr (BitVec.ofNat 4 r.val) d = some i) : Meaning i (answers (spRead d r))
  | tick (n : Nat) : Meaning (.tick n) (execTick n)
  | done : Meaning .done (performs phonemeDone)
  | reset : Meaning .reset (performs resetBlock)
  | config (e m : Bool) : Meaning (.config e m) (performs (configure e m))
  | attach (e m : Bool) : Meaning (.attach e m) (execAttach e m)
  | detach : Meaning .detach (performs detachBlock)
  | snapsave : Meaning .snapsave execSnapsave
  | snaprestore (S : Block) : Meaning (.snaprestore S) (execSnaprestore S)
  | busr (c off : Byte) : Meaning (.busr c off) (execBusr c off)
  | busw (c off v : Byte) : Meaning (.busw c off v) (execBusw c off v)
  | psgReset (lo : BitVec 2) (d : DevIx) (k : ChipIx) :
      Meaning (.psgReset lo d k) (performs (inDecoder d (onReachedChip k (psgResetChip d k))))
  | psgInactive (d : DevIx) (k : ChipIx) : Meaning (.psgInactive d k) (performs psgNothing)
  | psgRead (d : DevIx) (k : ChipIx) : Meaning (.psgRead d k) (performs psgNothing)
  | psgWrite (d : DevIx) (k : ChipIx) :
      Meaning (.psgWrite d k) (performs (inDecoder d (onReachedChip k (psgWriteChip d k))))
  | psgLatch (d : DevIx) (k : ChipIx) : Meaning (.psgLatch d k) (performs (inDecoder d (psgLatchReg d)))
  | winPiaA (c : CardIx) (reg : BitVec 4) (a : Access) :
      Meaning (.winPiaA c reg a) (accessTarget (.pia (cardA c) reg) a)
  | winSpeech03 (c : CardIx) (reg : BitVec 2) (a : Access) :
      Meaning (.winSpeech03 c reg a) (accessTarget (.speech (cardB c) ⟨reg.toNat, by omega⟩) a)
  | winSpeech4 (c : CardIx) (a : Access) : Meaning (.winSpeech4 c a) (accessTarget (.speech (cardB c) 4) a)
  | winPiaB (c : CardIx) (reg : BitVec 4) (a : Access) :
      Meaning (.winPiaB c reg a) (accessTarget (.pia (cardB c) reg) a)

/-- Every operation is of one of the kinds, and `exec` gives it the meaning of its kind. -/
theorem exec_meaning (i : Instr) : ∃ m, Meaning i m ∧ exec i = m := by
  cases i with
  | wOrb d v => exact ⟨_, .piaWrite 0 d v, rfl⟩
  | wOra d v => exact ⟨_, .piaWrite 1 d v, rfl⟩
  | wDdrb d v => exact ⟨_, .piaWrite 2 d v, rfl⟩
  | wDdra d v => exact ⟨_, .piaWrite 3 d v, rfl⟩
  | wT1cl d v => exact ⟨_, .piaWrite 4 d v, rfl⟩
  | wT1ch d v => exact ⟨_, .piaWrite 5 d v, rfl⟩
  | wT1ll d v => exact ⟨_, .piaWrite 6 d v, rfl⟩
  | wT1lh d v => exact ⟨_, .piaWrite 7 d v, rfl⟩
  | wT2l d v => exact ⟨_, .piaWrite 8 d v, rfl⟩
  | wT2h d v => exact ⟨_, .piaWrite 9 d v, rfl⟩
  | wSr d v => exact ⟨_, .piaWrite 10 d v, rfl⟩
  | wAcr d v => exact ⟨_, .piaWrite 11 d v, rfl⟩
  | wPcr d v => exact ⟨_, .piaWrite 12 d v, rfl⟩
  | wIfr d v => exact ⟨_, .piaWrite 13 d v, rfl⟩
  | wIer d v => exact ⟨_, .piaWrite 14 d v, rfl⟩
  | wOran d v => exact ⟨_, .piaWrite 15 d v, rfl⟩
  | rOrb d => exact ⟨_, .piaRead 0 d, rfl⟩
  | rOra d => exact ⟨_, .piaRead 1 d, rfl⟩
  | rDdrb d => exact ⟨_, .piaRead 2 d, rfl⟩
  | rDdra d => exact ⟨_, .piaRead 3 d, rfl⟩
  | rT1cl d => exact ⟨_, .piaRead 4 d, rfl⟩
  | rT1ch d => exact ⟨_, .piaRead 5 d, rfl⟩
  | rT1ll d => exact ⟨_, .piaRead 6 d, rfl⟩
  | rT1lh d => exact ⟨_, .piaRead 7 d, rfl⟩
  | rT2l d => exact ⟨_, .piaRead 8 d, rfl⟩
  | rT2h d => exact ⟨_, .piaRead 9 d, rfl⟩
  | rSr d => exact ⟨_, .piaRead 10 d, rfl⟩
  | rAcr d => exact ⟨_, .piaRead 11 d, rfl⟩
  | rPcr d => exact ⟨_, .piaRead 12 d, rfl⟩
  | rIfr d => exact ⟨_, .piaRead 13 d, rfl⟩
  | rIer d => exact ⟨_, .piaRead 14 d, rfl⟩
  | rOran d => exact ⟨_, .piaRead 15 d, rfl⟩
  | swDurphon d v => exact ⟨_, .speechWrite 0 d v rfl, rfl⟩
  | swInflect d v => exact ⟨_, .speechWrite 1 d v rfl, rfl⟩
  | swRateinf d v => exact ⟨_, .speechWrite 2 d v rfl, rfl⟩
  | swCtrl d v => exact ⟨_, .speechWrite 3 d v rfl, rfl⟩
  | swFilt d v => exact ⟨_, .speechWrite 4 d v rfl, rfl⟩
  | srDurphon d => exact ⟨_, .speechRead 0 d rfl, rfl⟩
  | srInflect d => exact ⟨_, .speechRead 1 d rfl, rfl⟩
  | srRateinf d => exact ⟨_, .speechRead 2 d rfl, rfl⟩
  | srCtrl d => exact ⟨_, .speechRead 3 d rfl, rfl⟩
  | srFilt d => exact ⟨_, .speechRead 4 d rfl, rfl⟩
  | tick n => exact ⟨_, .tick n, rfl⟩
  | done => exact ⟨_, .done, rfl⟩
  | reset => exact ⟨_, .reset, rfl⟩
  | config e m => exact ⟨_, .config e m, rfl⟩
  | attach e m => exact ⟨_, .attach e m, rfl⟩
  | detach => exact ⟨_, .detach, rfl⟩
  | snapsave => exact ⟨_, .snapsave, rfl⟩
  | snaprestore S => exact ⟨_, .snaprestore S, rfl⟩
  | busr c off => exact ⟨_, .busr c off, rfl⟩
  | busw c off v => exact ⟨_, .busw c off v, rfl⟩
  | psgReset lo d k => exact ⟨_, .psgReset lo d k, rfl⟩
  | psgInactive d k => exact ⟨_, .psgInactive d k, rfl⟩
  | psgRead d k => exact ⟨_, .psgRead d k, rfl⟩
  | psgWrite d k => exact ⟨_, .psgWrite d k, rfl⟩
  | psgLatch d k => exact ⟨_, .psgLatch d k, rfl⟩
  | winPiaA c reg a => exact ⟨_, .winPiaA c reg a, rfl⟩
  | winSpeech03 c reg a => exact ⟨_, .winSpeech03 c reg a, rfl⟩
  | winSpeech4 c a => exact ⟨_, .winSpeech4 c a, rfl⟩
  | winPiaB c reg a => exact ⟨_, .winPiaB c reg a, rfl⟩

/-! ## What a window access is made of -/

/-- What an access through the window can do to the PIA registers of device `d`: nothing, a read or a write. -/
inductive RegStep (d : DevIx) : State → State → Prop
  | none (s : State) : RegStep d s s
  | read (r : BitVec 4) (s : State) : RegStep d s (regRead d r s).1
  | write (r : BitVec 4) (v : Byte) (s : State) : RegStep d s (regWrite d r v s)

/-- What an access through the window can do to the speech registers of device `d`: nothing, as every read does, or a
write. -/
inductive SpeechStep (d : DevIx) : State → State → Prop
  | none (s : State) : SpeechStep d s s
  | write (r : Fin 5) (v : Byte) (s : State) : SpeechStep d s (spWrite d r v s)

/-- A register access, through the window or not: at most one access to the PIA registers of each of two devices, and
after them at most one to the speech registers of the second (30_encoding.md R60, R70, R71; log entry 17). -/
inductive RegAccess (s t : State) : Prop
  | intro (a b : DevIx) (hab : a ≠ b) (u₁ u₂ : State) (first : RegStep a s u₁) (second : RegStep b u₁ u₂)
      (speech : SpeechStep b u₂ t)

namespace RegAccess

theorem exists_ne (d : DevIx) : ∃ e, d ≠ e := by revert d; decide

theorem refl (s : State) : RegAccess s s := ⟨0, 1, by decide, s, s, .none s, .none s, .none s⟩

theorem of_regStep {d : DevIx} {s t : State} (h : RegStep d s t) : RegAccess s t := by
  obtain ⟨e, hne⟩ := exists_ne d
  exact ⟨d, e, hne, t, t, h, .none t, .none t⟩

theorem of_speechStep {d : DevIx} {s t : State} (h : SpeechStep d s t) : RegAccess s t := by
  obtain ⟨e, hne⟩ := exists_ne d
  exact ⟨e, d, hne.symm, s, s, .none s, .none s, h⟩

theorem regRead (d : DevIx) (r : BitVec 4) (s : State) : RegAccess s (Machine.regRead d r s).1 :=
  of_regStep (.read r s)

theorem regWrite (d : DevIx) (r : BitVec 4) (v : Byte) (s : State) : RegAccess s (Machine.regWrite d r v s) :=
  of_regStep (.write r v s)

theorem spWrite (d : DevIx) (r : Fin 5) (v : Byte) (s : State) : RegAccess s (Machine.spWrite d r v s) :=
  of_speechStep (.write r v s)

theorem readTarget (tgt : Target) (s : State) : RegAccess s (Machine.readTarget tgt s).1 := by
  cases tgt with
  | pia d r => exact regRead d r s
  | speech d r => exact refl s

theorem writeTarget (v : Byte) (tgt : Target) (s : State) : RegAccess s (Machine.writeTarget v tgt s) := by
  cases tgt with
  | pia d r => exact regWrite d r v s
  | speech d r => exact spWrite d r v s

theorem regStep_readIf (sel : Bool) (d : DevIx) (r : BitVec 4) (before : State × Byte) :
    RegStep d before.1 (readIf sel (Machine.regRead d r) before).1 := by
  cases sel with
  | false => exact .none _
  | true => exact .read r _

theorem regStep_writeIf (sel : Bool) (d : DevIx) (r : BitVec 4) (v : Byte) (s : State) :
    RegStep d s (writeIf sel (Machine.regWrite d r v) s) := by
  cases sel with
  | false => exact .none _
  | true => exact .write r v _

theorem cardA_ne_cardB (c : CardIx) : cardA c ≠ cardB c := by revert c; decide

theorem nativeRead (selA selB : Bool) (c : CardIx) (off : Byte) (s : State) :
    RegAccess s (Machine.nativeRead selA selB c off s).1 := by
  refine ⟨cardA c, cardB c, cardA_ne_cardB c, _, _, regStep_readIf selA _ (off.setWidth 4) (s, 0#8),
    regStep_readIf selB _ (off.setWidth 4) _, ?_⟩
  unfold Machine.nativeRead
  cases speechRegAt off with
  | none => exact .none _
  | some r => exact .none _

theorem nativeWrite (selA selB : Bool) (c : CardIx) (off v : Byte) (s : State) :
    RegAccess s (Machine.nativeWrite selA selB c off v s) := by
  refine ⟨cardA c, cardB c, cardA_ne_cardB c, _, _, regStep_writeIf selA _ (off.setWidth 4) v s,
    regStep_writeIf selB _ (off.setWidth 4) v _, ?_⟩
  unfold Machine.nativeWrite
  cases speechRegAt off with
  | none => exact .none _
  | some r => exact .write r v _

end RegAccess

/-! ## What a completed operation has done -/

/-- What a completed operation has done to the state before it answered, by kind. A PSG function run alone has done
something only in sound-generator-control mode and to a reached chip (log entry 9). -/
inductive Effect (s : State) : Instr → State → Prop
  | access {i : Instr} {t : State} (h : RegAccess s t) : Effect s i t
  | psgReset (lo : BitVec 2) (d : DevIx) (k : ChipIx) (hd : (s.dev d).speechDataMode = false)
      (hk : chipReached s.blk.nativeMode k = true) : Effect s (.psgReset lo d k) (psgResetChip d k s)
  | psgWrite (d : DevIx) (k : ChipIx) (hd : (s.dev d).speechDataMode = false)
      (hk : chipReached s.blk.nativeMode k = true) : Effect s (.psgWrite d k) (psgWriteChip d k s)
  | psgLatch (d : DevIx) (k : ChipIx) (hd : (s.dev d).speechDataMode = false) :
      Effect s (.psgLatch d k) (psgLatchReg d s)
  | tick (n : Nat) (hn : n ≤ tickMax) : Effect s (.tick n) (tickBy (BitVec.ofNat 16 n) s)
  | done : Effect s .done (phonemeDone s)
  | reset : Effect s .reset (resetBlock s)
  | config (e m : Bool) : Effect s (.config e m) (configure e m s)
  | attach (e m : Bool) : Effect s (.attach e m) (attachBlock e m s)
  | detach : Effect s .detach (detachBlock s)
  | snaprestore (S : Block) (hS : S.typeOk = true) : Effect s (.snaprestore S) (restoreBlock S s)

namespace Effect

variable {i : Instr} {s t : State}

theorem of_performs {f : State → State} (hf : Effect s i (f s)) (hx : performs f s = .next t) :
    ∃ u r, Effect s i u ∧ t = u.returns r := by
  obtain ⟨-, rfl⟩ := performs_next hx
  exact ⟨_, _, hf, rfl⟩

theorem of_answers {f : State → State × Byte} (hf : Effect s i (f s).1) (hx : answers f s = .next t) :
    ∃ u r, Effect s i u ∧ t = u.returns r := by
  obtain ⟨-, rfl⟩ := answers_next hx
  exact ⟨_, _, hf, rfl⟩

theorem of_accessTarget (tgt : Target) (a : Access) (hx : accessTarget tgt a s = .next t) :
    ∃ u r, Effect s i u ∧ t = u.returns r := by
  cases a with
  | read => exact of_answers (.access (.readTarget tgt s)) hx
  | write v => exact of_performs (.access (.writeTarget v tgt s)) hx

theorem of_busr {c off : Byte} (hx : execBusr c off s = .next t) : ∃ u r, Effect s i u ∧ t = u.returns r := by
  obtain ⟨card, -, ⟨-, hx⟩ | ⟨-, tgt, -, hx⟩⟩ := execBusr_next hx
  · exact of_answers (.access (.nativeRead _ _ card off s)) hx
  · exact of_answers (.access (.readTarget tgt s)) hx

theorem of_busw {c off v : Byte} (hx : execBusw c off v s = .next t) : ∃ u r, Effect s i u ∧ t = u.returns r := by
  obtain ⟨card, -, ⟨-, hx⟩ | ⟨-, tgt, -, hx⟩⟩ := execBusw_next hx
  · exact of_performs (.access (.nativeWrite _ _ card off v s)) hx
  · exact of_performs (.access (.writeTarget v tgt s)) hx

theorem of_inDecoder {d : DevIx} {f : State → State}
    (hf : (s.dev d).speechDataMode = false → Effect s i (f s)) : Effect s i (inDecoder d f s) := by
  obtain ⟨hd, he⟩ | ⟨-, he⟩ := inDecoder_cases d f s
  · rw [he]; exact hf hd
  · rw [he]; exact .access (.refl s)

theorem of_onReachedChip {k : ChipIx} {f : State → State}
    (hf : chipReached s.blk.nativeMode k = true → Effect s i (f s)) : Effect s i (onReachedChip k f s) := by
  obtain ⟨hk, he⟩ | ⟨-, he⟩ := onReachedChip_cases k f s
  · rw [he]; exact hf hk
  · rw [he]; exact .access (.refl s)

end Effect

/-- Everything a completed operation can be: an effect of its kind, and then an answer. -/
theorem exec_effect {i : Instr} {s t : State} (hx : exec i s = .next t) : ∃ u r, Effect s i u ∧ t = u.returns r := by
  obtain ⟨m, hm, he⟩ := exec_meaning i
  rw [he] at hx
  cases hm with
  | piaWrite r d v => exact Effect.of_performs (.access (.regWrite d r v s)) hx
  | piaRead r d => exact Effect.of_answers (.access (.regRead d r s)) hx
  | speechWrite r d v hi => exact Effect.of_performs (.access (.spWrite d r v s)) hx
  | speechRead r d hi => exact Effect.of_answers (.access (.refl s)) hx
  | tick n =>
    obtain ⟨-, hn, rfl⟩ := execTick_next hx
    exact ⟨_, _, .tick n hn, rfl⟩
  | done => exact Effect.of_performs .done hx
  | reset => exact Effect.of_performs .reset hx
  | config e m => exact Effect.of_performs (.config e m) hx
  | attach e m =>
    cases hx
    exact ⟨_, _, .attach e m, rfl⟩
  | detach => exact Effect.of_performs .detach hx
  | snapsave =>
    obtain ⟨-, rfl⟩ := execSnapsave_next hx
    exact ⟨_, _, .access (.refl s), rfl⟩
  | snaprestore S =>
    obtain ⟨-, hS, rfl⟩ := execSnaprestore_next hx
    exact ⟨_, _, .snaprestore S hS, rfl⟩
  | busr c off => exact Effect.of_busr hx
  | busw c off v => exact Effect.of_busw hx
  | psgReset lo d k =>
    exact Effect.of_performs (Effect.of_inDecoder fun hd => Effect.of_onReachedChip fun hk => .psgReset lo d k hd hk) hx
  | psgInactive d k | psgRead d k => exact Effect.of_performs (.access (.refl s)) hx
  | psgWrite d k =>
    exact Effect.of_performs (Effect.of_inDecoder fun hd => Effect.of_onReachedChip fun hk => .psgWrite d k hd hk) hx
  | psgLatch d k => exact Effect.of_performs (Effect.of_inDecoder fun hd => .psgLatch d k hd) hx
  | winPiaA c reg a | winSpeech03 c reg a | winSpeech4 c a | winPiaB c reg a => exact Effect.of_accessTarget _ a hx

end Sys2Proof.Machine
end

section
/-! What the register accesses and the completion of a phoneme are made of: small changes of one device, of the timer
slot, of the speech source and of the phoneme slot. A predicate that these keep is kept by the register accesses and by
DONE, so that each invariant is checked on the changes and not on the registers. -/

namespace Sys2Proof.Machine

/-! ## The changes -/

/-- What a plain store keeps: the flags and enables, the items of the chips and those of the speech mode. -/
structure Device.StoreKeeps (x y : Device) : Prop where
  ifr : y.ifr = x.ifr
  ier : y.ier = x.ier
  curReg : y.curReg = x.curReg
  psg : y.psg = x.psg
  spDurPhon : y.spDurPhon = x.spDurPhon
  spCtrl : y.spCtrl = x.spCtrl
  spCur : y.spCur = x.spCur

theorem Device.StoreKeeps.refl (x : Device) : x.StoreKeeps x := ⟨rfl, rfl, rfl, rfl, rfl, rfl, rfl⟩

/-- The predicate is kept by the changes that an access to the PIA registers of device `d` is made of. The sound-generator
decoder stands apart. -/
structure KeptByRegEdits (d : DevIx) (P : State → Prop) : Prop where
  store : ∀ s f, (s.dev d).StoreKeeps (f (s.dev d)) → P s → P (s.modDev d f)
  clearFlags : ∀ m s, P s → P (clearFlags d m s)
  arm : ∀ s, P s → P (arm d s)
  writeIer : ∀ v s, P s → P (writeIer d v s)
  play : ∀ code via s, P s → P (play d code via s)

/-- A phoneme slot emptied by DONE: beside the slot only the route bit and the count of free values may change
(43_speech.md R191; log entry 12). -/
structure SlotEmptied (s t : State) : Prop where
  dev : ∀ d, t.dev d = s.dev d
  timer : TimerKept s t
  phasor : PhasorKept s t
  speechLine : t.blk.speechLine = s.blk.speechLine
  activePhoneme : t.blk.activePhoneme = none
  speechOwner : t.blk.speechOwner = s.blk.speechOwner
  attached : t.attached = s.attached
  params : t.params = s.params
  trace : t.trace = s.trace

/-- The predicate is kept by the changes that a write of a speech register of device `d`, or a completion that goes to it,
is made of. The write of control stands apart. -/
structure KeptBySpeechEdits (d : DevIx) (P : State → Prop) : Prop extends KeptByRegEdits d P where
  setSpeechLine : ∀ l s, P s → P (setSpeechLine l s)
  clearPin : ∀ s, P s → P (s.modDev d fun x => { x with spCur := x.spCur &&& ~~~(bitMask 0) })
  setPin : ∀ s, P s → P (s.modDev d fun x => { x with spCur := x.spCur ||| bitMask 0 })
  storeDurPhon : ∀ v s, P s → P (s.modDev d fun x => { x with spDurPhon := v })
  setPeriph : ∀ s, P s → P (setFlags d (periphMask s.params) s)
  slotEmptied : ∀ s t, SlotEmptied s t → P s → P t

/-! ## A write of IER (40_pia_registers.md R116) -/

/-- The enables after a write of `v` to IER (30_encoding.md R67). -/
def enablesAfter (v ier : Byte) : Byte :=
  if v.getLsbD 7 then ier ||| (v &&& causeMask) else ier &&& ~~~(v &&& causeMask) &&& causeMask

/-- The enables changed and the summaries recomputed, before the timer slot is looked at. -/
def changeEnables (d : DevIx) (v : Byte) (s : State) : State :=
  recompute (s.modDev d fun x => { x with ier := enablesAfter v x.ier })

theorem writeIer_of_set {v : Byte} (hv : v.getLsbD 7 = true) (d : DevIx) (s : State) :
    writeIer d v s = arm d (changeEnables d v s) := by
  simp only [writeIer, changeEnables, enablesAfter, hv, if_true]

theorem writeIer_of_clear {v : Byte} (hv : v.getLsbD 7 = false) (d : DevIx) (s : State) :
    writeIer d v s =
      if ((changeEnables d v s).dev d).ier.getLsbD t1Bit then changeEnables d v s
      else stop d (changeEnables d v s) := by
  simp only [writeIer, changeEnables, enablesAfter, hv, Bool.false_eq_true, if_false]

/-- All that a write of IER can do: change the enables, and then arm timer 1, stop it or leave it. -/
theorem writeIer_cases (d : DevIx) (v : Byte) (s : State) :
    writeIer d v s = arm d (changeEnables d v s) ∨ writeIer d v s = stop d (changeEnables d v s) ∨
      writeIer d v s = changeEnables d v s := by
  cases hv : v.getLsbD 7 with
  | true => exact .inl (writeIer_of_set hv d s)
  | false =>
    rw [writeIer_of_clear hv]
    split
    · exact .inr (.inr rfl)
    · exact .inr (.inl rfl)

theorem writeIer_dev (d e : DevIx) (v : Byte) (s : State) :
    (writeIer d v s).dev e =
      ((s.modDev d fun x => { x with ier := enablesAfter v x.ier }).dev e).summarise := by
  have h : (changeEnables d v s).dev e = _ := recompute_dev _ e
  obtain hw | hw | hw := writeIer_cases d v s
  · rw [hw, arm_dev, h]
  · rw [hw, stop_dev, h]
  · rw [hw, h]

/-! ## The accesses -/

namespace KeptByRegEdits

variable {d : DevIx} {P : State → Prop} {s t : State}

/-- The registers in the order of their indices: the reads of T1CL and T2L clear a flag, the others change nothing. -/
theorem regRead (h : KeptByRegEdits d P) (r : BitVec 4) (hs : P s) : P (regRead d r s).1 := by
  have ack := fun m => h.clearFlags m s hs
  obtain ⟨⟨r, hr⟩⟩ := r
  interval_cases r
  exacts [hs, hs, hs, hs, ack _, hs, hs, hs, ack _, hs, hs, hs, hs, hs, hs, hs]

theorem writeOrb (h : KeptByRegEdits d P) (v : Byte)
    (hdecode : (s.dev d).speechDataMode = false → ∀ cw t, P t → P (psgDecode d cw t)) (hs : P s) :
    P (writeOrb d v s) := by
  have stored : P (s.modDev d fun x => { x with orb := portVal s.params v (s.dev d).ddrb }) :=
    h.store s (fun _ => _) (by constructor <;> rfl) hs
  unfold Machine.writeOrb
  dsimp only
  split
  · exact h.play _ _ _ (h.clearFlags _ _ stored)
  next hmode => exact hdecode (Bool.eq_false_iff.mpr hmode) _ _ stored

/-- The registers in the order of their indices (30_encoding.md R61): beside ORB and IER each is a plain store, after
which T1CH, T1LH, T2H and IFR clear flags. -/
theorem regWrite (h : KeptByRegEdits d P) (r : BitVec 4) (v : Byte)
    (hdecode : (s.dev d).speechDataMode = false → ∀ cw t, P t → P (psgDecode d cw t)) (hs : P s) :
    P (regWrite d r v s) := by
  have store : ∀ f : Device → Device, (s.dev d).StoreKeeps (f (s.dev d)) → P (s.modDev d f) :=
    fun f hf => h.store s f hf hs
  have storeClear : ∀ (m : Byte) (f : Device → Device), (s.dev d).StoreKeeps (f (s.dev d)) →
      P (Machine.clearFlags d m (s.modDev d f)) := fun m f hf => h.clearFlags m _ (store f hf)
  obtain ⟨⟨r, hr⟩⟩ := r
  interval_cases r
  · exact h.writeOrb v hdecode hs
  iterate 4 exact store (fun _ => _) (by constructor <;> rfl)
  · exact h.arm _ (storeClear _ (fun _ => _) (by constructor <;> rfl))
  · exact store (fun _ => _) (by constructor <;> rfl)
  · exact storeClear _ (fun _ => _) (by constructor <;> rfl)
  · exact store (fun _ => _) (by constructor <;> rfl)
  · exact h.store _ (fun _ => _) (by constructor <;> rfl) (storeClear _ (fun _ => _) (by constructor <;> rfl))
  · exact hs
  iterate 2 exact store (fun _ => _) (by constructor <;> rfl)
  · exact h.clearFlags v s hs
  · exact h.writeIer v s hs
  · exact store (fun _ => _) (by constructor <;> rfl)

theorem regStep (h : KeptByRegEdits d P)
    (hdecode : (s.dev d).speechDataMode = false → ∀ cw t, P t → P (psgDecode d cw t)) (hs : P s)
    (hx : RegStep d s t) : P t := by
  cases hx with
  | none => exact hs
  | read r => exact h.regRead r hs
  | write r v => exact h.regWrite r v hdecode hs

/-- A write of IER keeps what recomputing after a change of enables, arming and stopping keep. -/
theorem writeIer_of {v : Byte} (hc : P (changeEnables d v s)) (ha : ∀ s, P s → P (Machine.arm d s))
    (hst : ∀ s, P s → P (stop d s)) : P (Machine.writeIer d v s) := by
  obtain hw | hw | hw := writeIer_cases d v s
  · rw [hw]; exact ha _ hc
  · rw [hw]; exact hst _ hc
  · rw [hw]; exact hc

end KeptByRegEdits

namespace KeptBySpeechEdits

variable {d : DevIx} {P : State → Prop} {s t : State}

theorem clearSpeechCondition (h : KeptBySpeechEdits d P) (hs : P s) : P (clearSpeechCondition d s) := by
  cases he : s.blk.phasorEnable with
  | false =>
    rw [clearSpeechCondition_disabled he]
    exact h.clearPin _ (h.clearFlags _ s hs)
  | true =>
    rw [clearSpeechCondition_enabled he]
    exact h.clearPin _ (h.setSpeechLine false s hs)

theorem writeDurPhon (h : KeptBySpeechEdits d P) (v : Byte) (hs : P s) : P (writeDurPhon d v s) := by
  have stored := h.storeDurPhon v _ (h.clearSpeechCondition hs)
  unfold Machine.writeDurPhon
  dsimp only
  split
  · exact stored
  · exact h.play _ _ _ stored

theorem spWrite (h : KeptBySpeechEdits d P) (r : Fin 5) (v : Byte) (hctrl : r = 3 → P (writeCtrl d v s)) (hs : P s) :
    P (spWrite d r v s) := by
  match r with
  | 0 => exact h.writeDurPhon v hs
  | 1 | 2 | 4 => exact h.store s (fun _ => _) (by constructor <;> rfl) hs
  | 3 => exact hctrl rfl

theorem speechStep (h : KeptBySpeechEdits d P) (hctrl : ∀ v, P (writeCtrl d v s)) (hs : P s)
    (hx : SpeechStep d s t) : P t := by
  cases hx with
  | none => exact hs
  | write r v => exact h.spWrite r v (fun _ => hctrl v) hs

/-! ## The completion of a phoneme -/

theorem completeNative (h : KeptBySpeechEdits d P) (hs : P s) : P (completeNative d s) := by
  by_cases hmode : (s.dev d).spCur &&& 0xC0#8 = 0#8
  · rw [completeNative_disabled_mode hmode]
    exact hs
  · have pinned := h.setPin s hs
    cases he : s.blk.phasorEnable with
    | false =>
      rw [completeNative_classic hmode he]
      exact h.setPeriph _ pinned
    | true =>
      rw [completeNative_phasor hmode he]
      exact h.setSpeechLine true _ pinned

end KeptBySpeechEdits

/-- The slot emptied by DONE, with the device the completion goes to. -/
def emptiedSlot (s : State) : DevIx × State :=
  completionDevice { s with blk := { s.blk with activePhoneme := none } }

theorem emptiedSlot_spec (s : State) :
    SlotEmptied s (emptiedSlot s).2 ∧ (emptiedSlot s).2.blk.viaVotrax = s.blk.viaVotrax := by
  unfold emptiedSlot completionDevice
  split <;> exact ⟨⟨fun _ => rfl, ⟨rfl, rfl⟩, ⟨rfl, rfl⟩, rfl, rfl, rfl, rfl, rfl, rfl⟩, rfl⟩

/-- DONE with a phoneme playing, by the route of the phoneme (43_speech.md R191). -/
theorem phonemeDone_of_active {s : State} {p : Phoneme} (h : s.blk.activePhoneme = some p) :
    phonemeDone s =
      if s.blk.viaVotrax then completeVotrax (emptiedSlot s).1 (emptiedSlot s).2
      else completeNative (emptiedSlot s).1 (emptiedSlot s).2 := by
  unfold phonemeDone
  rw [h, ← (emptiedSlot_spec s).2]
  rfl

/-- The slot emptied and the route bit cleared. -/
theorem SlotEmptied.clearRoute {s t : State} (h : SlotEmptied s t) :
    SlotEmptied s { t with blk := { t.blk with viaVotrax := false } } :=
  ⟨h.dev, h.timer, h.phasor, h.speechLine, h.activePhoneme, h.speechOwner, h.attached, h.params, h.trace⟩

theorem KeptBySpeechEdits.phonemeDone {P : State → Prop} (h : ∀ d, KeptBySpeechEdits d P) {s : State} (hs : P s) :
    P (phonemeDone s) := by
  cases hp : s.blk.activePhoneme with
  | none =>
    rw [phonemeDone_idle hp]
    exact hs
  | some p =>
    have empty := (emptiedSlot_spec s).1
    rw [phonemeDone_of_active hp]
    split
    · exact (h _).setPeriph _ ((h 0).slotEmptied s _ empty.clearRoute hs)
    · exact (h _).completeNative ((h 0).slotEmptied s _ empty hs)

/-! ## From the changes to the parts of an operation -/

/-- The predicate is kept by everything but the tick and the system operations. -/
structure KeptByEdits (P : State → Prop) : Prop where
  edits : ∀ d, KeptBySpeechEdits d P
  writeCtrl : ∀ d v s, P s → P (writeCtrl d v s)
  psg : ∀ d s t, PsgFrame d s t → P s → P t

namespace KeptByEdits

variable {P : State → Prop} {s t : State}

theorem regRead (h : KeptByEdits P) (d : DevIx) (r : BitVec 4) (hs : P s) : P (regRead d r s).1 :=
  (h.edits d).regRead r hs

theorem regWrite (h : KeptByEdits P) (d : DevIx) (r : BitVec 4) (v : Byte) (hs : P s) : P (regWrite d r v s) :=
  (h.edits d).regWrite r v (fun _ cw t => h.psg d t _ (psgDecode_frame d cw t)) hs

theorem spWrite (h : KeptByEdits P) (d : DevIx) (r : Fin 5) (v : Byte) (hs : P s) : P (spWrite d r v s) :=
  (h.edits d).spWrite r v (fun _ => h.writeCtrl d v s hs) hs

theorem regAccess (h : KeptByEdits P) (hs : P s) (hx : RegAccess s t) : P t := by
  obtain ⟨a, b, -, u₁, u₂, first, second, speech⟩ := hx
  have decode : ∀ d cw t, P t → P (psgDecode d cw t) := fun d cw t => h.psg d t _ (psgDecode_frame d cw t)
  have h₁ : P u₁ := (h.edits a).regStep (fun _ => decode a) hs first
  have h₂ : P u₂ := (h.edits b).regStep (fun _ => decode b) h₁ second
  exact (h.edits b).speechStep (fun v => h.writeCtrl b v u₂ h₂) h₂ speech

/-- The parts of an operation, from the changes; taking the input, answering, the tick and the system operations are left
to the invariant. -/
theorem keptByParts (h : KeptByEdits P) (input : ∀ s rest, P s → P { s with input := rest })
    (returns : ∀ s r, P s → P (s.returns r)) (tick : ∀ n s, P s → P (tickBy n s))
    (reset : ∀ s, P s → P (resetBlock s)) (config : ∀ e m s, P s → P (configure e m s))
    (attach : ∀ e m s, P s → P (attachBlock e m s)) (detach : ∀ s, P s → P (detachBlock s)) : KeptByParts P where
  input := input
  returns := returns
  regRead d r _ hs := h.regRead d r hs
  regWrite d r v _ hs := h.regWrite d r v hs
  spWrite d r v _ hs := h.spWrite d r v hs
  psgReset d k s hs := h.psg d s _ (psgResetChip_frame d k s) hs
  psgWrite d k s hs := h.psg d s _ (psgWriteChip_frame d k s) hs
  psgLatch d s hs := h.psg d s _ (psgLatchReg_frame d s) hs
  tick := tick
  done _ hs := KeptBySpeechEdits.phonemeDone h.edits hs
  reset := reset
  config := config
  attach := attach
  detach := detach

end KeptByEdits

end Sys2Proof.Machine
end

section
/-! What the shared operations keep, one item at a time: an item that an operation does not write is the same after it,
in every device. An item is a function `π` of a device. -/

namespace Sys2Proof.Machine

variable {α : Type} (π : Device → α)

/-! ## Items of the devices -/

/-- An item that a change of one device keeps is the same in every device. -/
theorem item_modDev {s : State} {d : DevIx} {f : Device → Device} (hf : π (f (s.dev d)) = π (s.dev d)) (e : DevIx) :
    π ((s.modDev d f).dev e) = π (s.dev e) := by
  by_cases he : e = d
  · subst he
    rw [State.dev_modDev_self, hf]
  · rw [State.dev_modDev_of_ne _ _ _ _ he]

theorem item_clearFlags (hπ : ∀ x v, π { x with ifr := v } = π x) (d : DevIx) (m : Byte) (s : State) (e : DevIx) :
    π ((clearFlags d m s).dev e) = π (s.dev e) := by
  rw [clearFlags_dev, Device.summarise_eq, hπ]
  exact item_modDev π (hπ _ _) e

theorem item_setFlags (hπ : ∀ x v, π { x with ifr := v } = π x) (d : DevIx) (m : Byte) (s : State) (e : DevIx) :
    π ((setFlags d m s).dev e) = π (s.dev e) := by
  rw [setFlags_dev, Device.summarise_eq, hπ]
  exact item_modDev π (hπ _ _) e

theorem item_writeIer (hπ : ∀ x v w, π { x with ifr := v, ier := w } = π x) (d : DevIx) (v : Byte) (s : State)
    (e : DevIx) : π ((writeIer d v s).dev e) = π (s.dev e) := by
  have hifr : ∀ x v, π { x with ifr := v } = π x := fun x v => hπ x v x.ier
  rw [writeIer_dev, Device.summarise_eq, hifr]
  exact item_modDev π (hπ _ _ _) e

theorem item_psgFrame (hπ : ∀ x r p, π { x with curReg := r, psg := p } = π x) {d : DevIx} {s t : State}
    (h : PsgFrame d s t) (e : DevIx) : π (t.dev e) = π (s.dev e) := by
  by_cases he : e = d
  · subst he
    rw [h.items]
    exact hπ _ _ _
  · rw [h.others e he]

/-! ## The write of control -/

theorem State.modDev_modDev (s : State) (d : DevIx) (f g : Device → Device) :
    (s.modDev d f).modDev d g = s.modDev d fun x => g (f x) := by
  have h : (s.modDev d f).dev d = f (s.dev d) := State.dev_modDev_self s d f
  simp [State.modDev, Block.setDev, State.dev, Block.dev] at h ⊢

/-- The current-mode byte after a write of `v` to control (43_speech.md R183, R186). -/
def modeAfter (clearsPin : Bool) (v : Byte) (x : Device) : Byte :=
  if x.spCtrl.getLsbD 7 = true ∧ v.getLsbD 7 = false then
    if clearsPin then x.spDurPhon &&& 0xC0#8 else (x.spCur &&& 0x3F#8) ||| (x.spDurPhon &&& 0xC0#8)
  else x.spCur

/-- The write of control is a change of the control and current-mode bytes of its device. -/
theorem writeCtrl_eq (d : DevIx) (v : Byte) (s : State) :
    writeCtrl d v s =
      s.modDev d fun x => { x with spCtrl := v, spCur := modeAfter s.params.relatchClearsPin v x } := by
  have congr : ∀ {f g : Device → Device}, f (s.dev d) = g (s.dev d) → s.modDev d f = s.modDev d g := fun h => by
    simp only [State.modDev, h]
  by_cases h : (s.dev d).spCtrl.getLsbD 7 = true ∧ v.getLsbD 7 = false
  · rw [writeCtrl_edge h.1 h.2, relatch, State.modDev_modDev]
    exact congr (by simp only [modeAfter, if_pos h])
  · rw [writeCtrl_no_edge h]
    exact congr (by simp only [modeAfter, if_neg h])

theorem item_writeCtrl (hπ : ∀ x v w, π { x with spCtrl := v, spCur := w } = π x) (d : DevIx) (v : Byte) (s : State)
    (e : DevIx) : π ((writeCtrl d v s).dev e) = π (s.dev e) := by
  rw [writeCtrl_eq]
  exact item_modDev π (hπ _ _ _) e

/-! ## The tick -/

theorem mem_allDevices (d : DevIx) : d ∈ ([0, 1, 2, 3] : List DevIx) := by revert d; decide

theorem tickAll_dev (n : Half) (s : State) (d : DevIx) : (tickAll n s).1.dev d = ticked s n d :=
  (tickDevices_spec n [0, 1, 2, 3] s false (by decide)).1 d (mem_allDevices d)

theorem tickAll_fired (n : Half) (s : State) :
    (tickAll n s).2 = true ↔ ∃ d, under1 s n d = true ∨ under2 s n d = true := by
  obtain ⟨-, -, h, -⟩ := tickDevices_spec n [0, 1, 2, 3] s false (by decide)
  refine h.trans ⟨?_, fun ⟨d, hd⟩ => .inr ⟨d, mem_allDevices d, hd⟩⟩
  rintro (h | ⟨d, -, hd⟩)
  · cases h
  · exact ⟨d, hd⟩

/-- A one-shot owner that fires gives up the slot (41_timer_engine.md R143). -/
theorem tickAll_timerOwner (n : Half) (s : State) :
    (tickAll n s).1.blk.timerOwner =
      if ∃ d, under1 s n d = true ∧ (s.dev d).acr.getLsbD 6 = false then none else s.blk.timerOwner := by
  obtain ⟨-, -, -, hgive, hkeep, -⟩ := tickDevices_spec n [0, 1, 2, 3] s false (by decide)
  split
  next h =>
    obtain ⟨d, hd⟩ := h
    exact hgive ⟨d, mem_allDevices d, hd⟩
  next h => exact hkeep fun ⟨d, _, hd⟩ => h ⟨d, hd⟩

theorem tickAll_frame (n : Half) (s : State) : TickFrame s (tickAll n s).1 := by
  obtain ⟨-, -, -, -, -, -, -, h⟩ := tickDevices_spec n [0, 1, 2, 3] s false (by decide)
  exact h

theorem tickBy_of_fired {n : Half} {s : State} (h : (tickAll n s).2 = true) :
    tickBy n s = recompute (tickAll n s).1 := if_pos h

theorem tickBy_of_quiet {n : Half} {s : State} (h : (tickAll n s).2 = false) : tickBy n s = (tickAll n s).1 :=
  if_neg (by rw [h]; decide)

/-- The tick recomputes or not, and the timer slot and the other globals do not see it. -/
theorem tickBy_timerOwner (n : Half) (s : State) :
    (tickBy n s).blk.timerOwner = (tickAll n s).1.blk.timerOwner := by
  unfold tickBy; split <;> rfl

theorem tickBy_dev (n : Half) (s : State) (d : DevIx) :
    (tickBy n s).dev d = { ticked s n d with ifr := ((tickBy n s).dev d).ifr } ∧
      ((tickBy n s).dev d).ifr &&& 0x7F#8 = (ticked s n d).ifr &&& 0x7F#8 := by
  cases hf : (tickAll n s).2 with
  | true =>
    rw [tickBy_of_fired hf, recompute_dev, tickAll_dev]
    exact ⟨Device.summarise_eq _, Device.summarise_causes _⟩
  | false =>
    rw [tickBy_of_quiet hf, tickAll_dev]
    exact ⟨rfl, rfl⟩

theorem item_tickBy (hπ : ∀ x c₁ c₂ a f, π { x with t1c := c₁, t2c := c₂, t2Armed := a, ifr := f } = π x) (n : Half)
    (s : State) (d : DevIx) : π ((tickBy n s).dev d) = π (s.dev d) := by
  rw [(tickBy_dev n s d).1]
  exact hπ (s.dev d) _ _ _ _

end Sys2Proof.Machine
end

section
/-! The timer owner is an enabled even device (41_timer_engine.md R146), and the types of the state items (10_state.md
sections 3 and 6): what can change an owner or an enable is arming, stopping, a write of IER and a tick. -/

namespace Sys2Proof.Machine

/-! ## The timer owner is enabled -/

/-- An operation that keeps the owner and every IER. -/
theorem State.OwnerEnabled.congr {s t : State} (hs : s.OwnerEnabled) (ho : t.blk.timerOwner = s.blk.timerOwner)
    (hi : ∀ d, (t.dev d).ier = (s.dev d).ier) : t.OwnerEnabled := fun d hd => by
  rw [hi]
  exact hs d (ho ▸ hd)

/-- An operation that leaves no owner. -/
theorem State.OwnerEnabled.of_none {s : State} (h : s.blk.timerOwner = none) : s.OwnerEnabled := fun d hd => by
  rw [h] at hd
  cases hd

theorem ownerEnabled_arm (d : DevIx) {s : State} (hs : s.OwnerEnabled) : (arm d s).OwnerEnabled := by
  intro e he
  rw [arm_dev]
  rw [arm_timerOwner] at he
  split at he
  next h =>
    obtain rfl := Option.some.inj he
    simpa [isA, t1Bit] using h
  next => exact hs e he

/-- A write of IER that adds enables keeps those of the owner, and one that removes the timer 1 enable of the owner stops
the timer (40_pia_registers.md R116). -/
theorem ownerEnabled_writeIer (d : DevIx) (v : Byte) {s : State} (hs : s.OwnerEnabled) :
    (writeIer d v s).OwnerEnabled := by
  have other : ∀ e, e ≠ d → ((changeEnables d v s).dev e).ier = (s.dev e).ier := fun e he => by
    rw [changeEnables, recompute_dev, Device.summarise_ier, State.dev_modDev_of_ne _ _ _ _ he]
  have own : ((changeEnables d v s).dev d).ier = enablesAfter v (s.dev d).ier := by
    rw [changeEnables, recompute_dev, Device.summarise_ier, State.dev_modDev_self]
  have keep : ((s.dev d).ier.getLsbD 6 = true → ((changeEnables d v s).dev d).ier.getLsbD 6 = true) →
      (changeEnables d v s).OwnerEnabled := by
    intro h e he
    obtain ⟨heven, henabled⟩ := hs e he
    refine ⟨heven, ?_⟩
    by_cases hed : e = d
    · subst hed
      exact h henabled
    · rw [other e hed]
      exact henabled
  cases hv : v.getLsbD 7 with
  | true =>
    rw [writeIer_of_set hv]
    refine ownerEnabled_arm d (keep fun h => ?_)
    rw [own, enablesAfter, if_pos hv, BitVec.getLsbD_or, h]
    rfl
  | false =>
    rw [writeIer_of_clear hv]
    split
    next h => exact keep fun _ => h
    next h =>
      intro e he
      rw [stop_timerOwner] at he
      split at he
      · cases he
      next hd =>
        have hed : e ≠ d := fun hed => hd (hed ▸ he)
        rw [stop_dev, other e hed]
        exact hs e he

theorem ownerEnabled_keptByEdits : KeptByEdits State.OwnerEnabled where
  edits d :=
    { store := fun s _ hf hs => hs.congr rfl (item_modDev Device.ier hf.ier)
      clearFlags := fun m s hs => hs.congr rfl (item_clearFlags Device.ier (fun _ _ => rfl) d m s)
      arm := fun _ hs => ownerEnabled_arm d hs
      writeIer := fun v _ hs => ownerEnabled_writeIer d v hs
      play := fun _ _ _ hs => hs
      setSpeechLine := fun _ _ hs => hs
      clearPin := fun _ hs => hs.congr rfl (item_modDev Device.ier rfl)
      setPin := fun _ hs => hs.congr rfl (item_modDev Device.ier rfl)
      storeDurPhon := fun _ _ hs => hs.congr rfl (item_modDev Device.ier rfl)
      setPeriph := fun s hs => hs.congr rfl (item_setFlags Device.ier (fun _ _ => rfl) d _ s)
      slotEmptied := fun _ _ h hs => hs.congr h.timer.1 fun e => by rw [h.dev e] }
  writeCtrl d v s hs := hs.congr (by rw [writeCtrl_eq]; rfl) (item_writeCtrl Device.ier (fun _ _ _ => rfl) d v s)
  psg d s t h hs := hs.congr h.globals.1.1 (item_psgFrame Device.ier (fun _ _ _ => rfl) h)

/-- A tick keeps the enables, and the owner or leaves none (41_timer_engine.md R143). -/
theorem ownerEnabled_tickBy (n : Half) {s : State} (hs : s.OwnerEnabled) : (tickBy n s).OwnerEnabled := by
  have ho := (tickBy_timerOwner n s).trans (tickAll_timerOwner n s)
  split at ho
  next => exact .of_none ho
  next => exact hs.congr ho (item_tickBy Device.ier (fun _ _ _ _ _ => rfl) n s)

theorem ownerEnabled_keptByParts : KeptByParts State.OwnerEnabled :=
  ownerEnabled_keptByEdits.keptByParts (input := fun _ _ hs => hs) (returns := fun _ _ hs => hs)
    (tick := fun n _ hs => ownerEnabled_tickBy n hs) (reset := fun _ _ => .of_none (by rw [resetBlock_blk]; rfl))
    (config := fun _ _ _ hs => hs) (attach := fun _ _ _ _ => .of_none (by rw [attachBlock_blk]; rfl))
    (detach := fun _ _ => .of_none rfl)

/-- Settles O8: a tick, arming and a write of IER keep the owner enabled, and nothing else changes the owner or an IER. -/
theorem ownerEnabledKept : Obligations.OwnerEnabledKept := by
  intro s t hs hrestore hstep
  exact ownerEnabled_keptByParts.of_step (fun S rest hd _ => absurd hd (hrestore S rest)) hs hstep

/-! ## The types of the state items -/

/-- An operation that keeps the owner or leaves none, and keeps every IER. -/
theorem typed_congr {s t : State} (hs : s.blk.Typed) (ho : t.blk.timerOwner = s.blk.timerOwner ∨ t.blk.timerOwner = none)
    (hi : ∀ d, (t.dev d).ier = (s.dev d).ier) : t.blk.Typed := by
  refine ⟨fun d hd => ?_, fun d => (congrArg (·.getLsbD 7) (hi d)).trans (hs.2 d)⟩
  obtain ho | ho := ho
  · exact hs.1 d (ho ▸ hd)
  · rw [ho] at hd
    cases hd

theorem typed_arm (d : DevIx) {s : State} (hs : s.blk.Typed) : (arm d s).blk.Typed := by
  refine ⟨fun e he => ?_, fun e => (congrArg (fun x : Device => x.ier.getLsbD 7) (arm_dev d e s)).trans (hs.2 e)⟩
  rw [arm_timerOwner] at he
  split at he
  next h =>
    obtain rfl := Option.some.inj he
    have heven : isA d = true := (Bool.and_eq_true_iff.mp h).1
    simpa [isA] using heven
  next => exact hs.1 e he

theorem typed_stop (d : DevIx) {s : State} (hs : s.blk.Typed) : (stop d s).blk.Typed := by
  refine typed_congr hs ?_ fun e => by rw [stop_dev]
  rw [stop_timerOwner]
  split
  · exact .inr rfl
  · exact .inl rfl

/-- Neither adding nor removing enables sets bit 7 (30_encoding.md R67). -/
theorem enablesAfter_top {v ier : Byte} (h : ier.getLsbD 7 = false) : (enablesAfter v ier).getLsbD 7 = false := by
  have hm : causeMask.getLsbD 7 = false := by decide
  unfold enablesAfter
  split
  · rw [BitVec.getLsbD_or, BitVec.getLsbD_and, h, hm, Bool.and_false]
    rfl
  · rw [BitVec.getLsbD_and, hm, Bool.and_false]

theorem typed_changeEnables (d : DevIx) (v : Byte) {s : State} (hs : s.blk.Typed) : (changeEnables d v s).blk.Typed := by
  refine ⟨hs.1, fun e => ?_⟩
  show ((changeEnables d v s).dev e).ier.getLsbD 7 = false
  rw [changeEnables, recompute_dev, Device.summarise_ier]
  by_cases he : e = d
  · subst he
    rw [State.dev_modDev_self]
    exact enablesAfter_top (hs.2 e)
  · rw [State.dev_modDev_of_ne _ _ _ _ he]
    exact hs.2 e

theorem typed_keptByEdits : KeptByEdits fun s => s.blk.Typed where
  edits d :=
    { store := fun s _ hf hs => typed_congr hs (.inl rfl) (item_modDev Device.ier hf.ier)
      clearFlags := fun m s hs => typed_congr hs (.inl rfl) (item_clearFlags Device.ier (fun _ _ => rfl) d m s)
      arm := fun _ hs => typed_arm d hs
      writeIer := fun v _ hs => KeptByRegEdits.writeIer_of (P := fun s => s.blk.Typed) (typed_changeEnables d v hs)
        (fun _ => typed_arm d) (fun _ => typed_stop d)
      play := fun _ _ _ hs => hs
      setSpeechLine := fun _ _ hs => hs
      clearPin := fun _ hs => typed_congr hs (.inl rfl) (item_modDev Device.ier rfl)
      setPin := fun _ hs => typed_congr hs (.inl rfl) (item_modDev Device.ier rfl)
      storeDurPhon := fun _ _ hs => typed_congr hs (.inl rfl) (item_modDev Device.ier rfl)
      setPeriph := fun s hs => typed_congr hs (.inl rfl) (item_setFlags Device.ier (fun _ _ => rfl) d _ s)
      slotEmptied := fun _ _ h hs => typed_congr hs (.inl h.timer.1) fun e => by rw [h.dev e] }
  writeCtrl d v s hs :=
    typed_congr hs (.inl (by rw [writeCtrl_eq]; rfl)) (item_writeCtrl Device.ier (fun _ _ _ => rfl) d v s)
  psg d s t h hs := typed_congr hs (.inl h.globals.1.1) (item_psgFrame Device.ier (fun _ _ _ => rfl) h)

theorem typed_tickBy (n : Half) {s : State} (hs : s.blk.Typed) : (tickBy n s).blk.Typed := by
  refine typed_congr hs ?_ (item_tickBy Device.ier (fun _ _ _ _ _ => rfl) n s)
  rw [tickBy_timerOwner, tickAll_timerOwner]
  split
  · exact .inr rfl
  · exact .inl rfl

theorem typed_zero (e m : Bool) : (Block.zero e m).Typed :=
  ⟨fun _ h => (nomatch h), fun d => by rw [Block.dev_zero]; rfl⟩

theorem typed_summarise {b : Block} (h : b.Typed) : b.summarise.Typed :=
  ⟨h.1, fun d => by rw [Block.summarise, Block.dev_mapDevs]; exact h.2 d⟩

theorem typed_keptByParts : KeptByParts fun s => s.blk.Typed :=
  typed_keptByEdits.keptByParts (input := fun _ _ hs => hs) (returns := fun _ _ hs => hs)
    (tick := fun n _ hs => typed_tickBy n hs) (reset := fun s _ => by rw [resetBlock_blk]; exact typed_zero _ _)
    (config := fun _ _ _ hs => hs) (attach := fun e m s _ => by rw [attachBlock_blk]; exact typed_zero e m)
    (detach := fun _ _ => typed_zero _ _)

/-- Settles O9: arming is guarded by an even index and IER writes are masked, and a restore is of a snapshot that
type-checks (45_system_ops.md R212). -/
theorem typesKeptByEveryStep : Obligations.TypesKeptByEveryStep := by
  intro s t hs hstep
  refine typed_keptByParts.of_step (fun S rest _ hS => ?_) hs hstep
  show (restoreBlock S _).blk.Typed
  rw [restoreBlock_blk]
  exact typed_summarise ((Block.typeOk_iff S).mp hS)

end Sys2Proof.Machine
end

section
/-! Bits 5:1 of the current-mode bytes (10_state.md R20) and the owner of an active phoneme (43_speech.md R191). -/

namespace Sys2Proof.Machine

/-! ## Bits 5:1 of the current-mode byte -/

theorem State.ModeByteOk.congr {s t : State} (hs : s.ModeByteOk) (h : ∀ d, (t.dev d).spCur = (s.dev d).spCur) :
    t.ModeByteOk := fun d => by
  rw [h]
  exact hs d

/-- A change of the current-mode byte of one device that leaves bits 5:1 clear. -/
theorem modeByteOk_modDev {s : State} (hs : s.ModeByteOk) (d : DevIx) {f : Device → Device}
    (hf : (s.dev d).spCur &&& 0x3E#8 = 0#8 → (f (s.dev d)).spCur &&& 0x3E#8 = 0#8) : (s.modDev d f).ModeByteOk := by
  intro e
  by_cases he : e = d
  · subst he
    rw [State.dev_modDev_self]
    exact hf (hs e)
  · rw [State.dev_modDev_of_ne _ _ _ _ he]
    exact hs e

theorem clearedPin_bits (c : Byte) : (c &&& ~~~(bitMask 0)) &&& 0x3E#8 = c &&& 0x3E#8 := by revert c; decide

theorem setPin_bits (c : Byte) : (c ||| bitMask 0) &&& 0x3E#8 = c &&& 0x3E#8 := by revert c; decide

/-- A latched mode byte has bits 5:1 of the byte before, or none (43_speech.md R186). -/
theorem modeAfter_bits (clearsPin : Bool) (v : Byte) {x : Device} (h : x.spCur &&& 0x3E#8 = 0#8) :
    modeAfter clearsPin v x &&& 0x3E#8 = 0#8 := by
  have hdur : ∀ b : Byte, (b &&& 0xC0#8) &&& 0x3E#8 = 0#8 := by decide
  have hcur : ∀ c : Byte, (c &&& 0x3F#8) &&& 0x3E#8 = c &&& 0x3E#8 := by decide
  have hor : ∀ a b m : Byte, (a ||| b) &&& m = (a &&& m) ||| (b &&& m) := fun a b m => by
    rw [BitVec.and_comm, BitVec.and_or_distrib_left, BitVec.and_comm m, BitVec.and_comm m]
  unfold modeAfter
  split
  · split
    · exact hdur _
    · rw [hor, hdur, hcur, h]
      rfl
  · exact h

theorem modeByteOk_keptByEdits : KeptByEdits State.ModeByteOk where
  edits d :=
    { store := fun s _ hf hs => hs.congr (item_modDev Device.spCur hf.spCur)
      clearFlags := fun m s hs => hs.congr (item_clearFlags Device.spCur (fun _ _ => rfl) d m s)
      arm := fun s hs => hs.congr fun e => by rw [arm_dev]
      writeIer := fun v s hs => hs.congr (item_writeIer Device.spCur (fun _ _ _ => rfl) d v s)
      play := fun _ _ _ hs => hs
      setSpeechLine := fun _ _ hs => hs
      clearPin := fun _ hs => modeByteOk_modDev hs d fun h => (clearedPin_bits _).trans h
      setPin := fun _ hs => modeByteOk_modDev hs d fun h => (setPin_bits _).trans h
      storeDurPhon := fun _ _ hs => hs.congr (item_modDev Device.spCur rfl)
      setPeriph := fun s hs => hs.congr (item_setFlags Device.spCur (fun _ _ => rfl) d _ s)
      slotEmptied := fun _ _ h hs => hs.congr fun e => by rw [h.dev e] }
  writeCtrl d v s hs := by
    rw [writeCtrl_eq]
    exact modeByteOk_modDev hs d (modeAfter_bits _ v)
  psg d s t h hs := hs.congr (item_psgFrame Device.spCur (fun _ _ _ => rfl) h)

theorem modeByteOk_of_zero {s : State} {e m : Bool} (h : s.blk = Block.zero e m) : s.ModeByteOk := fun d => by
  rw [State.dev, h, Block.dev_zero]
  rfl

theorem modeByteOk_keptByParts : KeptByParts State.ModeByteOk :=
  modeByteOk_keptByEdits.keptByParts (input := fun _ _ hs => hs) (returns := fun _ _ hs => hs)
    (tick := fun n s hs => hs.congr (item_tickBy Device.spCur (fun _ _ _ _ _ => rfl) n s))
    (reset := fun s _ => modeByteOk_of_zero (resetBlock_blk s)) (config := fun _ _ _ hs => hs)
    (attach := fun e m s _ => modeByteOk_of_zero (attachBlock_blk e m s)) (detach := fun _ _ => modeByteOk_of_zero rfl)

/-- Settles O10: only a write of control and the pin change a current-mode byte, and none of them touches bits 5:1 but to
clear them. -/
theorem modeByteKept : Obligations.ModeByteKept := by
  intro s t hs hrestore hstep
  exact modeByteOk_keptByParts.of_step (fun S rest hd _ => absurd hd (hrestore S rest)) hs hstep

/-! ## The owner of an active phoneme -/

theorem State.PhonemeOwned.congr {s t : State} (hs : s.PhonemeOwned) (h : PhonemeKept s t) : t.PhonemeOwned := by
  obtain ⟨ha, ho, -⟩ := h
  intro hp
  rw [ho]
  exact hs (ha ▸ hp)

/-- No phoneme is active. -/
theorem State.PhonemeOwned.of_idle {s : State} (h : s.blk.activePhoneme = none) : s.PhonemeOwned := fun hp => by
  rw [h] at hp
  cases hp

theorem phonemeOwned_keptByEdits : KeptByEdits State.PhonemeOwned where
  edits d :=
    { store := fun _ _ _ hs => hs
      clearFlags := fun _ _ hs => hs
      arm := fun s hs => hs.congr ⟨arm_activePhoneme d s, arm_speechOwner d s, arm_viaVotrax d s⟩
      writeIer := fun _ s hs => KeptByRegEdits.writeIer_of hs
        (fun s hs => hs.congr ⟨arm_activePhoneme d s, arm_speechOwner d s, arm_viaVotrax d s⟩)
        (fun s hs => hs.congr ⟨stop_activePhoneme d s, stop_speechOwner d s, stop_viaVotrax d s⟩)
      play := fun _ _ _ _ _ => rfl
      setSpeechLine := fun _ _ hs => hs
      clearPin := fun _ hs => hs
      setPin := fun _ hs => hs
      storeDurPhon := fun _ _ hs => hs
      setPeriph := fun _ hs => hs
      slotEmptied := fun _ _ h _ => .of_idle h.activePhoneme }
  writeCtrl d v s hs := by
    rw [writeCtrl_eq]
    exact hs
  psg d s t h hs := hs.congr h.globals.2.2.2

theorem phonemeKept_tickBy (n : Half) (s : State) : PhonemeKept s (tickBy n s) := by
  obtain ⟨-, -, h, -⟩ := tickAll_frame n s
  unfold tickBy
  split
  · exact h
  · exact h

theorem phonemeOwned_keptByParts : KeptByParts State.PhonemeOwned :=
  phonemeOwned_keptByEdits.keptByParts (input := fun _ _ hs => hs) (returns := fun _ _ hs => hs)
    (tick := fun n s hs => hs.congr (phonemeKept_tickBy n s)) (reset := fun s _ => .of_idle (by rw [resetBlock_blk]; rfl))
    (config := fun _ _ _ hs => hs) (attach := fun e m s _ => .of_idle (by rw [attachBlock_blk]; rfl))
    (detach := fun _ _ => .of_idle rfl)

/-- Settles O11: a dispatch sets the phoneme with its owner, and DONE empties the slot. -/
theorem activePhonemeStaysOwned : Obligations.ActivePhonemeStaysOwned := by
  intro s t hs hrestore hstep
  exact phonemeOwned_keptByParts.of_step (fun S rest hd _ => absurd hd (hrestore S rest)) hs hstep

end Sys2Proof.Machine
end

section
/-! The last event of each interrupt source agrees with its level (60_exceptions.md R232): the aggregator tells the host
the level it leaves, and so does each change of the speech line. -/

namespace Sys2Proof.Machine

/-! ## What the events tell -/

theorem lastTold_append_piaIrq (trace : List Event) (l : Bool) :
    lastTold .pia (trace ++ [piaIrqEvent l]) = some l ∧
      lastTold .speech (trace ++ [piaIrqEvent l]) = lastTold .speech trace := by
  cases l <;> simp [piaIrqEvent]

theorem lastTold_append_speechIrq (trace : List Event) (l : Bool) :
    lastTold .speech (trace ++ [speechIrqEvent l]) = some l ∧
      lastTold .pia (trace ++ [speechIrqEvent l]) = lastTold .pia trace := by
  cases l <;> simp [speechIrqEvent]

theorem lastTold_append_play (source : IrqSource) (trace : List Event) (code : Phoneme) :
    lastTold source (trace ++ [.playPhoneme code]) = lastTold source trace := by
  simp

/-! ## The two lines -/

/-- The last event of the PIA source agrees with its level. -/
def State.PiaTold (s : State) : Prop := ∀ l, lastTold .pia s.trace = some l → l = s.blk.piaIrqLevel

/-- The last event of the speech source agrees with its level. -/
def State.SpeechTold (s : State) : Prop := ∀ l, lastTold .speech s.trace = some l → l = s.blk.speechIrqLevel

theorem State.PiaTold.of_last {s : State} (h : lastTold .pia s.trace = some s.blk.piaIrqLevel) : s.PiaTold :=
  fun _ hl => Option.some.inj (hl.symm.trans h)

theorem State.SpeechTold.of_last {s : State} (h : lastTold .speech s.trace = some s.blk.speechIrqLevel) :
    s.SpeechTold :=
  fun _ hl => Option.some.inj (hl.symm.trans h)

/-- Nothing told to the PIA source, and the summary bits unchanged. -/
theorem State.PiaTold.congr {s t : State} (hs : s.PiaTold) (ht : lastTold .pia t.trace = lastTold .pia s.trace)
    (hi : ∀ d, (t.dev d).ifr = (s.dev d).ifr) : t.PiaTold := fun l hl =>
  (hs l (ht ▸ hl)).trans (piaIrqLevel_congr fun d => congrArg (·.getLsbD 7) (hi d).symm)

/-- Nothing told to the speech source, and its level unchanged. -/
theorem State.SpeechTold.congr {s t : State} (hs : s.SpeechTold)
    (ht : lastTold .speech t.trace = lastTold .speech s.trace) (hl : t.blk.speechLine = s.blk.speechLine) :
    t.SpeechTold := fun l h =>
  (hs l (ht ▸ h)).trans hl.symm

theorem piaTold_recompute (s : State) : (recompute s).PiaTold :=
  .of_last (by rw [recompute_trace, (lastTold_append_piaIrq _ _).1])

theorem State.SpeechTold.recompute {s : State} (hs : s.SpeechTold) : (recompute s).SpeechTold :=
  hs.congr (by rw [recompute_trace, (lastTold_append_piaIrq _ _).2]) rfl

/-- After the aggregator both lines are told, if the speech line was. -/
theorem linesTold_recompute {s : State} (hs : s.attached = true → s.SpeechTold) : (recompute s).LinesTold :=
  fun ha => ⟨piaTold_recompute s, (hs ha).recompute⟩

theorem State.LinesTold.speech {s : State} (hs : s.LinesTold) : s.attached = true → s.SpeechTold := fun ha => (hs ha).2

/-- Nothing told to either source, and neither level changed. -/
theorem State.LinesTold.congr {s t : State} (hs : s.LinesTold) (ha : t.attached = s.attached)
    (ht : ∀ source, lastTold source t.trace = lastTold source s.trace) (hi : ∀ d, (t.dev d).ifr = (s.dev d).ifr)
    (hl : t.blk.speechLine = s.blk.speechLine) : t.LinesTold := fun hat => by
  obtain ⟨hpia, hspeech⟩ := hs (ha ▸ hat)
  exact ⟨State.PiaTold.congr hpia (ht _) hi, State.SpeechTold.congr hspeech (ht _) hl⟩

/-! ## The changes -/

theorem linesTold_modDev {s : State} (hs : s.LinesTold) (d : DevIx) {f : Device → Device}
    (hf : (f (s.dev d)).ifr = (s.dev d).ifr) : (s.modDev d f).LinesTold :=
  hs.congr rfl (fun _ => rfl) (item_modDev Device.ifr hf) rfl

theorem linesTold_arm (d : DevIx) {s : State} (hs : s.LinesTold) : (arm d s).LinesTold :=
  hs.congr (arm_attached d s) (fun _ => by rw [arm_trace]) (fun e => by rw [arm_dev]) (arm_speechLine d s)

theorem linesTold_stop (d : DevIx) {s : State} (hs : s.LinesTold) : (stop d s).LinesTold :=
  hs.congr (stop_attached d s) (fun _ => by rw [stop_trace]) (fun e => by rw [stop_dev]) (stop_speechLine d s)

theorem linesTold_setSpeechLine (l : Bool) {s : State} (hs : s.LinesTold) : (setSpeechLine l s).LinesTold := fun ha => by
  obtain ⟨hpia, -⟩ := hs ha
  have told := lastTold_append_speechIrq s.trace l
  exact ⟨State.PiaTold.congr hpia (by rw [setSpeechLine_trace, told.2]) fun d => rfl,
    State.SpeechTold.of_last (by rw [setSpeechLine_trace, told.1]; rfl)⟩

theorem linesTold_keptByEdits : KeptByEdits State.LinesTold where
  edits d :=
    { store := fun _ _ hf hs => linesTold_modDev hs d hf.ifr
      clearFlags := fun _ _ hs => linesTold_recompute hs.speech
      arm := fun _ hs => linesTold_arm d hs
      writeIer := fun _ _ hs =>
        KeptByRegEdits.writeIer_of (linesTold_recompute hs.speech) (fun _ => linesTold_arm d) (fun _ => linesTold_stop d)
      play := fun code via s hs => hs.congr rfl
        (fun source => by rw [play_trace, lastTold_append_play]) (fun _ => rfl) rfl
      setSpeechLine := fun l _ hs => linesTold_setSpeechLine l hs
      clearPin := fun _ hs => linesTold_modDev hs d rfl
      setPin := fun _ hs => linesTold_modDev hs d rfl
      storeDurPhon := fun _ _ hs => linesTold_modDev hs d rfl
      setPeriph := fun _ hs => linesTold_recompute hs.speech
      slotEmptied := fun _ _ h hs => hs.congr h.attached (fun _ => by rw [h.trace]) (fun e => by rw [h.dev e])
        h.speechLine }
  writeCtrl d v s hs := by
    rw [writeCtrl_eq]
    exact linesTold_modDev hs d rfl
  psg d s t h hs := hs.congr h.model.1 h.told (item_psgFrame Device.ifr (fun _ _ _ => rfl) h) h.globals.2.2.1

/-! ## The tick and the system operations -/

/-- A tick that sets no flag tells nothing and changes no level; one that sets a flag recomputes. -/
theorem linesTold_tickBy (n : Half) {s : State} (hs : s.LinesTold) : (tickBy n s).LinesTold := by
  obtain ⟨-, hline, -, ⟨hattached, -⟩, htrace, -⟩ := tickAll_frame n s
  cases hf : (tickAll n s).2 with
  | true =>
    rw [tickBy_of_fired hf]
    exact linesTold_recompute fun ha => State.SpeechTold.congr (hs.speech (hattached ▸ ha)) (by rw [htrace]) hline
  | false =>
    rw [tickBy_of_quiet hf]
    refine hs.congr hattached (fun _ => by rw [htrace]) (fun d => ?_) hline
    have quiet : ∀ d, ¬(under1 s n d = true ∨ under2 s n d = true) := fun d h => by
      rw [(tickAll_fired n s).mpr ⟨d, h⟩] at hf
      cases hf
    obtain ⟨h1, h2⟩ := not_or.mp (quiet d)
    rw [tickAll_dev]
    exact (ticked_flags (Bool.eq_false_iff.mpr h1) (Bool.eq_false_iff.mpr h2)).1

/-- Reset, attach and restore end with the aggregator and then tell the level of the speech line. -/
theorem linesTold_recompute_emit (s : State) (l : Bool) (hl : s.blk.speechLine = l) :
    ((recompute s).emit (speechIrqEvent l)).LinesTold := fun _ => by
  have told := lastTold_append_speechIrq (recompute s).trace l
  exact ⟨State.PiaTold.congr (piaTold_recompute s) told.2 fun _ => rfl,
    State.SpeechTold.of_last (told.1.trans (congrArg some hl.symm))⟩

theorem linesTold_keptByParts : KeptByParts State.LinesTold :=
  linesTold_keptByEdits.keptByParts (input := fun _ _ hs => hs) (returns := fun _ _ hs => hs)
    (tick := fun n _ hs => linesTold_tickBy n hs) (reset := fun _ _ => linesTold_recompute_emit _ false rfl)
    (config := fun _ _ _ hs => hs) (attach := fun _ _ _ _ => linesTold_recompute_emit _ false rfl)
    (detach := fun _ _ ha => nomatch ha)

/-- Settles O12: whatever changes a summary bit or the speech line tells the host the level after it. -/
theorem lastEventAgreesWithLevel : Obligations.LastEventAgreesWithLevel := by
  intro s t hs hstep
  exact linesTold_keptByParts.of_step (fun S _ _ _ => linesTold_recompute_emit _ S.speechLine rfl) hs hstep

end Sys2Proof.Machine
end

section
/-! Over all operations: what sets a timer 1 flag, what latches a mode, and what reaches the chips. Each follows from the
effects a completed operation can have (`exec_effect`). -/

namespace Sys2Proof.Machine

/-! ## The timer 1 flag (60_exceptions.md section 1) -/

/-- No timer 1 flag was set on the way from `s` to `t`. -/
def T1FlagNotSet (s t : State) : Prop :=
  ∀ d, (s.dev d).ifr.getLsbD 6 = false → (t.dev d).ifr.getLsbD 6 = false

theorem T1FlagNotSet.of_ifr {s t : State} (h : ∀ d, (t.dev d).ifr = (s.dev d).ifr) : T1FlagNotSet s t :=
  fun d hd => by rw [h d]; exact hd

theorem T1FlagNotSet.trans {s t u : State} (h : T1FlagNotSet s t) (h' : T1FlagNotSet t u) : T1FlagNotSet s u :=
  fun d hd => h' d (h d hd)

/-- A change of one device that does not set the flag. -/
theorem T1FlagNotSet.modDev (s : State) (d : DevIx) {f : Device → Device}
    (hf : (s.dev d).ifr.getLsbD 6 = false → (f (s.dev d)).ifr.getLsbD 6 = false) : T1FlagNotSet s (s.modDev d f) := by
  intro e
  by_cases he : e = d
  · subst he
    rw [State.dev_modDev_self]
    exact hf
  · rw [State.dev_modDev_of_ne _ _ _ _ he]
    exact id

/-- The aggregator changes the summary bit alone. -/
theorem T1FlagNotSet.recompute {s t : State} (h : T1FlagNotSet s t) : T1FlagNotSet s (recompute t) := fun d hd => by
  rw [recompute_dev, Device.summarise_getLsbD _ 6 (by decide)]
  exact h d hd

/-- The peripheral flag is one of bits 0 to 4, and so not the timer 1 flag (10_state.md R14). -/
theorem periphMask_t1 (p : Params) : (periphMask p &&& causeMask).getLsbD 6 = false := by
  have h : ∀ b : Fin 5, (bitMask b.val &&& causeMask).getLsbD 6 = false := by decide
  exact h p.periphBit

theorem t1FlagNotSet_clearFlags (d : DevIx) (m : Byte) (s : State) : T1FlagNotSet s (clearFlags d m s) :=
  (T1FlagNotSet.modDev s d fun h => by rw [BitVec.getLsbD_and, h, Bool.false_and]).recompute

theorem t1FlagNotSet_setPeriph (d : DevIx) (p : Params) (s : State) : T1FlagNotSet s (setFlags d (periphMask p) s) :=
  (T1FlagNotSet.modDev s d fun h => by rw [BitVec.getLsbD_or, h, periphMask_t1]; rfl).recompute

theorem t1FlagNotSet_keptByEdits (s : State) : KeptByEdits (T1FlagNotSet s) where
  edits d :=
    { store := fun t _ hf h => h.trans (.of_ifr (item_modDev Device.ifr hf.ifr))
      clearFlags := fun m t h => h.trans (t1FlagNotSet_clearFlags d m t)
      arm := fun t h => h.trans (.of_ifr fun e => by rw [arm_dev])
      writeIer := fun v t h => KeptByRegEdits.writeIer_of (h.trans (T1FlagNotSet.of_ifr (item_modDev Device.ifr rfl)).recompute)
        (fun t h => h.trans (.of_ifr fun e => by rw [arm_dev])) (fun t h => h.trans (.of_ifr fun e => by rw [stop_dev]))
      play := fun _ _ _ h => h
      setSpeechLine := fun _ _ h => h
      clearPin := fun t h => h.trans (.of_ifr (item_modDev Device.ifr rfl))
      setPin := fun t h => h.trans (.of_ifr (item_modDev Device.ifr rfl))
      storeDurPhon := fun _ t h => h.trans (.of_ifr (item_modDev Device.ifr rfl))
      setPeriph := fun t h => h.trans (t1FlagNotSet_setPeriph d t.params t)
      slotEmptied := fun t u he h => h.trans (.of_ifr fun e => by rw [he.dev e]) }
  writeCtrl d v t h := h.trans (.of_ifr (item_writeCtrl Device.ifr (fun _ _ _ => rfl) d v t))
  psg d t u hf h := h.trans (.of_ifr (item_psgFrame Device.ifr (fun _ _ _ => rfl) hf))

theorem t1FlagNotSet_of_zero (s : State) {t : State} {e m : Bool} (h : t.blk = Block.zero e m) : T1FlagNotSet s t :=
  fun d _ => by
    rw [State.dev, h, Block.dev_zero]
    rfl

/-- A tick sets the timer 1 flag of the device whose timer 1 passes below zero while it owns the slot, and of no other. -/
theorem tickBy_t1Flag (n : Half) (s : State) (d : DevIx) :
    ((tickBy n s).dev d).ifr.getLsbD 6 = ((s.dev d).ifr.getLsbD 6 || under1 s n d) := by
  have h := congrArg (·.getLsbD 6) (tickBy_dev n s d).2
  simp only [BitVec.getLsbD_and] at h
  have hm : (0x7F#8).getLsbD 6 = true := by decide
  rw [hm, Bool.and_true, Bool.and_true] at h
  rw [h]
  cases h1 : under1 s n d <;> cases h2 : under2 s n d <;> simp [ticked, h1, h2]

theorem under1_iff {s : State} {n : Nat} (hn : n ≤ tickMax) (d : DevIx) :
    under1 s (BitVec.ofNat 16 n) d = true ↔ s.blk.timerOwner = some d ∧ n > (s.dev d).t1c.toNat := by
  have hmod : (BitVec.ofNat 16 n).toNat = n := by
    rw [BitVec.toNat_ofNat]
    exact Nat.mod_eq_of_lt (Nat.lt_succ_of_le hn)
  simp [under1, hmod]

/-- Settles O36: of all effects only the tick, for an owner that passes below zero, and a restore set the flag. -/
theorem timerOneFlagSetOnlyByOwnersTick : Obligations.TimerOneFlagSetOnlyByOwnersTick := by
  intro i s t d hx hclear hset
  obtain ⟨u, r, he, rfl⟩ := exec_effect hx
  have notSet : ¬T1FlagNotSet s u := fun h => by
    rw [State.returns_dev, h d hclear] at hset
    cases hset
  have kept := t1FlagNotSet_keptByEdits s
  have refl : T1FlagNotSet s s := fun _ => id
  cases he with
  | access h => exact absurd (kept.regAccess refl h) notSet
  | psgReset lo e k => exact absurd (kept.psg e s _ (psgResetChip_frame e k s) refl) notSet
  | psgWrite e k => exact absurd (kept.psg e s _ (psgWriteChip_frame e k s) refl) notSet
  | psgLatch e => exact absurd (kept.psg e s _ (psgLatchReg_frame e s) refl) notSet
  | tick n hn =>
    rw [State.returns_dev, tickBy_t1Flag, hclear, Bool.false_or, under1_iff hn] at hset
    exact .inl ⟨n, rfl, hset⟩
  | done => exact absurd (KeptBySpeechEdits.phonemeDone kept.edits refl) notSet
  | reset => exact absurd (t1FlagNotSet_of_zero s (resetBlock_blk s)) notSet
  | config => exact absurd refl notSet
  | attach e m => exact absurd (t1FlagNotSet_of_zero s (attachBlock_blk e m s)) notSet
  | detach => exact absurd (t1FlagNotSet_of_zero (t := detachBlock s) s rfl) notSet
  | snaprestore S => exact .inr ⟨S, rfl⟩

/-! ## An item of one device -/

/-- The item `π` of device `d` and the Phasor configuration are unchanged. -/
def ItemKept {α : Type} (π : Device → α) (d : DevIx) (s t : State) : Prop :=
  PhasorKept s t ∧ π (t.dev d) = π (s.dev d)

variable {α : Type} {π : Device → α} {d : DevIx} {s t u : State}

theorem ItemKept.refl (π : Device → α) (d : DevIx) (s : State) : ItemKept π d s s := ⟨⟨rfl, rfl⟩, rfl⟩

theorem ItemKept.trans (h : ItemKept π d s t) (h' : ItemKept π d t u) : ItemKept π d s u :=
  ⟨⟨h'.1.1.trans h.1.1, h'.1.2.trans h.1.2⟩, h'.2.trans h.2⟩

theorem ItemKept.of_item (hp : PhasorKept s t) (h : ∀ e, π (t.dev e) = π (s.dev e)) : ItemKept π d s t := ⟨hp, h d⟩

/-- Outside native mode, and with the configuration unchanged, the block is still outside native mode. -/
theorem ItemKept.nativeMode (h : ItemKept π d s t) : t.blk.nativeMode = s.blk.nativeMode := by
  unfold Block.nativeMode
  rw [h.1.1, h.1.2]

theorem phasorKept_writeIer (e : DevIx) (v : Byte) (s : State) : PhasorKept s (writeIer e v s) := by
  obtain hw | hw | hw := writeIer_cases e v s
  · rw [hw]; exact ⟨arm_phasorEnable e _, arm_phasorMode e _⟩
  · rw [hw]; exact ⟨stop_phasorEnable e _, stop_phasorMode e _⟩
  · rw [hw]; exact ⟨rfl, rfl⟩

/-- The register edits keep every item but the flags, the enables and what is stored. -/
theorem ItemKept.keptByRegEdits (d : DevIx) (s : State) (hstore : ∀ x y : Device, x.StoreKeeps y → π y = π x)
    (hflags : ∀ x v w, π { x with ifr := v, ier := w } = π x) (e : DevIx) : KeptByRegEdits e (ItemKept π d s) where
  store t f hf h := h.trans (.of_item ⟨rfl, rfl⟩ (item_modDev π (hstore _ _ hf)))
  clearFlags m t h := h.trans (.of_item ⟨rfl, rfl⟩ (item_clearFlags π (fun x v => hflags x v x.ier) e m t))
  arm t h := h.trans (.of_item ⟨arm_phasorEnable e t, arm_phasorMode e t⟩ fun e' => by rw [arm_dev])
  writeIer v t h := h.trans (.of_item (phasorKept_writeIer e v t) (item_writeIer π hflags e v t))
  play _ _ _ h := h

/-- The speech edits keep every item but those and what is said of the pin and the phoneme byte. -/
theorem ItemKept.keptBySpeechEdits (d : DevIx) (s : State) (hstore : ∀ x y : Device, x.StoreKeeps y → π y = π x)
    (hflags : ∀ x v w, π { x with ifr := v, ier := w } = π x)
    (hclear : ∀ x, π { x with spCur := x.spCur &&& ~~~(bitMask 0) } = π x)
    (hset : ∀ x, π { x with spCur := x.spCur ||| bitMask 0 } = π x) (hdur : ∀ x v, π { x with spDurPhon := v } = π x)
    (e : DevIx) : KeptBySpeechEdits e (ItemKept π d s) where
  toKeptByRegEdits := ItemKept.keptByRegEdits d s hstore hflags e
  setSpeechLine _ _ h := h
  clearPin _ h := h.trans (.of_item ⟨rfl, rfl⟩ (item_modDev π (hclear _)))
  setPin _ h := h.trans (.of_item ⟨rfl, rfl⟩ (item_modDev π (hset _)))
  storeDurPhon v _ h := h.trans (.of_item ⟨rfl, rfl⟩ (item_modDev π (hdur _ v)))
  setPeriph t h := h.trans (.of_item ⟨rfl, rfl⟩ (item_setFlags π (fun x v => hflags x v x.ier) e _ t))
  slotEmptied _ _ he h := h.trans (.of_item he.phasor fun e' => by rw [he.dev e'])

theorem ItemKept.psgFrame (hπ : ∀ x r p, π { x with curReg := r, psg := p } = π x) {e : DevIx} (h : PsgFrame e s t) :
    ItemKept π d s t := .of_item h.globals.2.1 (item_psgFrame π hπ h)

/-! ## The latched mode (10_state.md R20, 43_speech.md R186) -/

/-- The items a mode latch reads and writes: the current-mode, control and duration bytes. -/
def speechItems (x : Device) : Byte × Byte × Byte := (x.spCur, x.spCtrl, x.spDurPhon)

/-- Bits 7:6 of the current-mode byte: the latched mode. -/
def latchedMode (x : Device) : Byte := x.spCur &&& 0xC0#8

/-- An access to the PIA registers of any device leaves the speech items as they are. -/
theorem regStep_speechItems {e : DevIx} (d : DevIx) (h : RegStep e s t) : ItemKept speechItems d s t := by
  have edits := ItemKept.keptByRegEdits (π := speechItems) d s
    (fun x y h => by simp only [speechItems, h.spCur, h.spCtrl, h.spDurPhon]) (fun _ _ _ => rfl) e
  exact edits.regStep
    (fun _ cw t ht => ht.trans (.psgFrame (fun _ _ _ => rfl) (psgDecode_frame e cw t))) (.refl _ d s) h

/-- Clearing and setting the pin and storing a duration byte leave the latched mode as it is. -/
theorem latchedMode_keptBySpeechEdits (d : DevIx) (s : State) (e : DevIx) :
    KeptBySpeechEdits e (ItemKept latchedMode d s) := by
  have hclear : ∀ c : Byte, (c &&& ~~~(bitMask 0)) &&& 0xC0#8 = c &&& 0xC0#8 := by decide
  have hset : ∀ c : Byte, (c ||| bitMask 0) &&& 0xC0#8 = c &&& 0xC0#8 := by decide
  exact ItemKept.keptBySpeechEdits d s (fun x y h => by simp only [latchedMode, h.spCur]) (fun _ _ _ => rfl)
    (fun x => hclear x.spCur) (fun x => hset x.spCur) (fun _ _ => rfl) e

/-- On the way from `s` to `t` the control bit of device `d` went from 1 to 0 and the mode became the duration mode. -/
def LatchedOnEdge (d : DevIx) (s t : State) : Prop :=
  (s.dev d).spCtrl.getLsbD 7 = true ∧ (t.dev d).spCtrl.getLsbD 7 = false ∧
    latchedMode (t.dev d) = (s.dev d).spDurPhon &&& 0xC0#8

/-- The mode after a write of control: the duration mode on an edge, and else the mode before. -/
theorem latchedMode_modeAfter (clearsPin : Bool) (v : Byte) (x : Device) :
    modeAfter clearsPin v x &&& 0xC0#8 =
      if x.spCtrl.getLsbD 7 = true ∧ v.getLsbD 7 = false then x.spDurPhon &&& 0xC0#8 else x.spCur &&& 0xC0#8 := by
  have hcut : ∀ c : Byte, (c &&& 0x3F#8) &&& 0xC0#8 = 0#8 := by decide
  have hidem : ∀ c : Byte, (c &&& 0xC0#8) &&& 0xC0#8 = c &&& 0xC0#8 := by decide
  unfold modeAfter
  split
  · split
    · exact hidem _
    · rw [BitVec.and_comm, BitVec.and_or_distrib_left, BitVec.and_comm _ (_ &&& 0x3F#8), hcut,
        BitVec.and_comm _ (_ &&& 0xC0#8), hidem, BitVec.zero_or]
  · rfl

theorem writeCtrl_latchedMode (d e : DevIx) (v : Byte) (s : State) :
    LatchedOnEdge d s (writeCtrl e v s) ∨ ItemKept latchedMode d s (writeCtrl e v s) := by
  rw [writeCtrl_eq]
  by_cases he : d = e
  · subst he
    have mode := latchedMode_modeAfter s.params.relatchClearsPin v (s.dev d)
    split at mode
    next hedge => exact .inl ⟨hedge.1, by rw [State.dev_modDev_self]; exact hedge.2, by
      rw [State.dev_modDev_self]; exact mode⟩
    next => exact .inr ⟨⟨rfl, rfl⟩, by rw [State.dev_modDev_self]; exact mode⟩
  · exact .inr ⟨⟨rfl, rfl⟩, by rw [State.dev_modDev_of_ne _ _ _ _ he]⟩

theorem speechStep_latchedMode {e : DevIx} (d : DevIx) (h : SpeechStep e s t) :
    LatchedOnEdge d s t ∨ ItemKept latchedMode d s t := by
  cases h with
  | none => exact .inr (.refl _ d s)
  | write r v =>
    by_cases hr : r = 3
    · subst hr
      exact writeCtrl_latchedMode d e v s
    · exact .inr ((latchedMode_keptBySpeechEdits d s e).spWrite r v (fun h => absurd h hr) (.refl _ d s))

/-- A register access, through the window or not, latches a mode on an edge of the control bit alone. -/
theorem regAccess_latchedMode (d : DevIx) (h : RegAccess s t) : LatchedOnEdge d s t ∨ ItemKept latchedMode d s t := by
  obtain ⟨a, b, -, u₁, u₂, first, second, speech⟩ := h
  obtain ⟨phasor, items⟩ := (regStep_speechItems d first).trans (regStep_speechItems d second)
  obtain ⟨cur, ctrl, dur⟩ : (u₂.dev d).spCur = (s.dev d).spCur ∧ (u₂.dev d).spCtrl = (s.dev d).spCtrl ∧
      (u₂.dev d).spDurPhon = (s.dev d).spDurPhon := by simpa [speechItems] using items
  obtain ⟨high, low, mode⟩ | kept := speechStep_latchedMode d speech
  · exact .inl ⟨ctrl ▸ high, low, dur ▸ mode⟩
  · exact .inr (ItemKept.trans ⟨phasor, by rw [latchedMode, latchedMode, cur]⟩ kept)

/-- Settles O40: of the effects left only a speech write of control changes the bits, and it does so on the edge. -/
theorem modeLatchedOnlyOnControlEdge : Obligations.ModeLatchedOnlyOnControlEdge := by
  intro i s t d hx hreset hdetach hattach hrestore hmode
  obtain ⟨u, r, he, rfl⟩ := exec_effect hx
  have changed : ¬ItemKept latchedMode d s u := fun h => hmode h.2
  cases he with
  | access h => exact (regAccess_latchedMode d h).resolve_right changed
  | psgReset lo e k => exact absurd (.psgFrame (fun _ _ _ => rfl) (psgResetChip_frame e k s)) changed
  | psgWrite e k => exact absurd (.psgFrame (fun _ _ _ => rfl) (psgWriteChip_frame e k s)) changed
  | psgLatch e => exact absurd (.psgFrame (fun _ _ _ => rfl) (psgLatchReg_frame e s)) changed
  | tick n => exact absurd (item_tickBy latchedMode (fun _ _ _ _ _ => rfl) _ s d) hmode
  | done => exact absurd (KeptBySpeechEdits.phonemeDone (latchedMode_keptBySpeechEdits d s) (.refl _ d s)) changed
  | reset => exact absurd rfl hreset
  | config => exact absurd rfl hmode
  | attach e m => exact absurd rfl (hattach e m)
  | detach => exact absurd rfl hdetach
  | snaprestore S => exact absurd rfl (hrestore S)

/-! ## The chips (10_state.md R26, 42_psg_decoder.md R160) -/

/-- An item made of the shadow registers and the latched index alone is kept by the speech edits. -/
theorem chips_keptBySpeechEdits (hπ : ∀ x y : Device, y.psg = x.psg → y.curReg = x.curReg → π y = π x) (d : DevIx)
    (s : State) (e : DevIx) : KeptBySpeechEdits e (ItemKept π d s) :=
  ItemKept.keptBySpeechEdits d s (fun x y h => hπ x y h.psg h.curReg) (fun _ _ _ => hπ _ _ rfl rfl)
    (fun _ => hπ _ _ rfl rfl) (fun _ => hπ _ _ rfl rfl) (fun _ _ => hπ _ _ rfl rfl) e

/-- A write of control is no matter of the chips. -/
theorem chips_writeCtrl (hπ : ∀ x y : Device, y.psg = x.psg → y.curReg = x.curReg → π y = π x) (d e : DevIx)
    (v : Byte) (s : State) : ItemKept π d s (writeCtrl e v s) :=
  .of_item (by rw [writeCtrl_eq]; exact ⟨rfl, rfl⟩) (item_writeCtrl π (fun _ _ _ => hπ _ _ rfl rfl) e v s)

theorem chips_speechStep (hπ : ∀ x y : Device, y.psg = x.psg → y.curReg = x.curReg → π y = π x) {e : DevIx}
    (d : DevIx) (h : SpeechStep e s t) : ItemKept π d s t :=
  (chips_keptBySpeechEdits hπ d s e).speechStep (fun v => chips_writeCtrl hπ d e v s) (.refl _ d s) h

theorem chips_done (hπ : ∀ x y : Device, y.psg = x.psg → y.curReg = x.curReg → π y = π x) (d : DevIx) (s : State) :
    π ((phonemeDone s).dev d) = π (s.dev d) :=
  (KeptBySpeechEdits.phonemeDone (chips_keptBySpeechEdits hπ d s) (.refl _ d s)).2

/-! ### The second chip -/

/-- The shadow registers of chip `(d, 1)`. -/
def secondChip (x : Device) (r : BitVec 4) : Byte := x.psgReg 1 r

theorem secondChip_congr (x y : Device) (h : y.psg = x.psg) (_ : y.curReg = x.curReg) : secondChip y = secondChip x := by
  funext r
  simp only [secondChip, Device.psgReg, h]

theorem secondChip_regStep (h : s.blk.nativeMode = false) {e : DevIx} (d : DevIx) (hx : RegStep e s t) :
    ItemKept secondChip d s t := by
  refine (chips_keptBySpeechEdits secondChip_congr d s e).regStep (fun _ cw t ht => ?_) (.refl _ d s) hx
  exact ht.trans ⟨(psgDecode_frame e cw t).globals.2.1,
    funext fun r => psgDecode_second e d r cw t (ht.nativeMode.trans h)⟩

theorem secondChip_regAccess (h : s.blk.nativeMode = false) (d : DevIx) (hx : RegAccess s t) :
    ItemKept secondChip d s t := by
  obtain ⟨a, b, -, u₁, u₂, first, second, speech⟩ := hx
  have h₁ := secondChip_regStep h d first
  exact (h₁.trans (secondChip_regStep (h₁.nativeMode.trans h) d second)).trans
    (chips_speechStep secondChip_congr d speech)

/-- A function that reaches a chip outside native mode reaches the first one. -/
theorem chip_of_reached {k : ChipIx} (h : s.blk.nativeMode = false) (hk : chipReached s.blk.nativeMode k = true) :
    k = 0 := by
  rw [h] at hk
  revert hk k
  decide

/-- Settles O58: outside native mode the decoder selects the first chip alone, and a function run alone does not reach the
second. -/
theorem secondChipKeptOutsideNativeMode : Obligations.SecondChipKeptOutsideNativeMode := by
  intro i s t d r hnative hx hreset hdetach hattach hrestore
  have hn : s.blk.nativeMode = false := hnative
  obtain ⟨u, _, he, rfl⟩ := exec_effect hx
  cases he with
  | access h => exact congrFun (secondChip_regAccess hn d h).2 r
  | psgReset lo e k _ hk =>
    obtain rfl := chip_of_reached hn hk
    rw [State.returns_dev, psgResetChip_dev]
    split
    next hd => subst hd; rw [Device.psgReg_resetChip]; rfl
    next => rfl
  | psgWrite e k _ hk =>
    obtain rfl := chip_of_reached hn hk
    rw [State.returns_dev, psgWriteChip_dev]
    split
    next hd =>
      subst hd
      rw [Device.psgReg_setPsgReg, if_neg]
      rintro ⟨h, -⟩
      cases h
    next => rfl
  | psgLatch e k =>
    rw [State.returns_dev, psgLatchReg_dev]
    split
    next hd => subst hd; rfl
    next => rfl
  | tick n => exact congrFun (item_tickBy secondChip (fun _ _ _ _ _ => rfl) _ s d) r
  | done => exact congrFun (chips_done secondChip_congr d s) r
  | reset => exact absurd rfl hreset
  | config => rfl
  | attach e m => exact absurd rfl (hattach e m)
  | detach => exact absurd rfl hdetach
  | snaprestore S => exact absurd rfl (hrestore S)

/-! ### Speech-data mode -/

/-- The shadow registers of both chips and the latched index. -/
def chipItems (x : Device) : Vector (Vector Byte 16) 2 × BitVec 4 := (x.psg, x.curReg)

theorem chipItems_congr (x y : Device) (hp : y.psg = x.psg) (hr : y.curReg = x.curReg) : chipItems y = chipItems x := by
  rw [chipItems, chipItems, hp, hr]

/-- What the sound-generator decoder does for one device is no matter of another device. -/
theorem ItemKept.of_psgFrame_ne {e : DevIx} (h : PsgFrame e s t) (he : d ≠ e) : ItemKept π d s t :=
  ⟨h.globals.2.1, by rw [h.others d he]⟩

/-- An access to the PIA registers of a device in speech-data mode, or of another device, keeps the device's chips. -/
theorem chipItems_regStep {e : DevIx} (h : d = e → (s.dev e).speechDataMode = true) (hx : RegStep e s t) :
    ItemKept chipItems d s t := by
  refine (chips_keptBySpeechEdits chipItems_congr d s e).regStep (fun hmode cw t ht => ?_) (.refl _ d s) hx
  have hne : d ≠ e := fun hd => by
    rw [h hd] at hmode
    cases hmode
  exact ht.trans (.of_psgFrame_ne (psgDecode_frame e cw t) hne)

/-- A device but for its IFR. -/
def butFlags (x : Device) : Device := { x with ifr := 0#8 }

/-- An access to the PIA registers of one device changes at most the IFR of another. -/
theorem regStep_other {e : DevIx} (hd : d ≠ e) (hx : RegStep e s t) : ItemKept butFlags d s t := by
  have edits : KeptByRegEdits e (ItemKept butFlags d s) :=
    { store := fun t f _ h => h.trans ⟨⟨rfl, rfl⟩, by rw [State.dev_modDev_of_ne _ _ _ _ hd]⟩
      clearFlags := fun m t h => h.trans (.of_item ⟨rfl, rfl⟩ (item_clearFlags butFlags (fun _ _ => rfl) e m t))
      arm := fun t h => h.trans (.of_item ⟨arm_phasorEnable e t, arm_phasorMode e t⟩ fun e' => by rw [arm_dev])
      writeIer := fun v t h => h.trans ⟨phasorKept_writeIer e v t, by
        rw [writeIer_dev, State.dev_modDev_of_ne _ _ _ _ hd]; rfl⟩
      play := fun _ _ _ h => h }
  exact edits.regStep (fun _ cw t ht => ht.trans (.of_psgFrame_ne (psgDecode_frame e cw t) hd)) (.refl _ d s) hx

theorem chipItems_regAccess (h : (s.dev d).speechDataMode = true) (hx : RegAccess s t) : ItemKept chipItems d s t := by
  obtain ⟨a, b, hab, u₁, u₂, first, second, speech⟩ := hx
  have h₁ : ItemKept chipItems d s u₁ := chipItems_regStep (fun hd => hd ▸ h) first
  have h₂ : ItemKept chipItems d u₁ u₂ := chipItems_regStep (fun hd => by
    subst hd
    exact (congrArg Device.speechDataMode (regStep_other (Ne.symm hab) first).2).trans h) second
  exact (h₁.trans h₂).trans (chips_speechStep chipItems_congr d speech)

/-- Settles O59: a port-B write in speech-data mode goes to the Votrax route, and a function run alone does nothing there;
a native window write reaches each device's PIA registers once, so it cannot leave the mode and then reach the chips. -/
theorem speechDataModeShieldsTheChips : Obligations.SpeechDataModeShieldsTheChips := by
  intro i s t d hddrb hpcr hx hreset hdetach hattach hrestore
  have hmode : (s.dev d).speechDataMode = true := (speechDataMode_iff _).mpr ⟨hddrb, hpcr⟩
  obtain ⟨u, r, he, rfl⟩ := exec_effect hx
  have shielded : ∀ {e}, (s.dev e).speechDataMode = false → PsgFrame e s u → chipItems (u.dev d) = chipItems (s.dev d) :=
    fun {e} hfalse hf => by
      have hne : d ≠ e := fun hd => by
        rw [← hd, hmode] at hfalse
        cases hfalse
      rw [hf.others d hne]
  suffices h : chipItems (u.dev d) = chipItems (s.dev d) by
    obtain ⟨hp, hr⟩ := Prod.mk.inj h
    exact ⟨fun k r => by simp only [State.returns_dev, Device.psgReg, hp], hr⟩
  cases he with
  | access h => exact (chipItems_regAccess hmode h).2
  | psgReset lo e k hfalse => exact shielded hfalse (psgResetChip_frame e k s)
  | psgWrite e k hfalse => exact shielded hfalse (psgWriteChip_frame e k s)
  | psgLatch e k hfalse => exact shielded hfalse (psgLatchReg_frame e s)
  | tick n => exact item_tickBy chipItems (fun _ _ _ _ _ => rfl) _ s d
  | done => exact chips_done chipItems_congr d s
  | reset => exact absurd rfl hreset
  | config => rfl
  | attach e m => exact absurd rfl (hattach e m)
  | detach => exact absurd rfl hdetach
  | snaprestore S => exact absurd rfl (hrestore S)

end Sys2Proof.Machine
end

section
/-! A register access touches one device (10_state.md R10): the other devices see it through the aggregator alone, which
changes nothing where SUMMARY holds. -/

namespace Sys2Proof.Machine

/-- SUMMARY holds, and on the way from `s` no device but `d` changed. -/
def TouchesOnly (d : DevIx) (s t : State) : Prop := t.Summary ∧ OthersKept s t d

variable {d : DevIx} {s t u : State}

/-- A further change that leaves the other devices as they are. -/
theorem TouchesOnly.step (h : TouchesOnly d s t) (hu : u.Summary) (ho : OthersKept t u d) : TouchesOnly d s u :=
  ⟨hu, fun e he => (ho e he).trans (h.2 e he)⟩

/-- A further change of device `d` alone, and the aggregator: where SUMMARY held it does not change another device. -/
theorem TouchesOnly.recomputed (h : TouchesOnly d s t) (hu : u.Summary) (f : Device → Device)
    (hdev : ∀ e, u.dev e = ((t.modDev d f).dev e).summarise) : TouchesOnly d s u :=
  h.step hu fun e he => by
    rw [hdev, State.dev_modDev_of_ne _ _ _ _ he]
    exact Device.summarise_of_ok (h.1 e)

theorem TouchesOnly.modDev (h : TouchesOnly d s t) {f : Device → Device}
    (hf : (f (t.dev d)).ifr = (t.dev d).ifr ∧ (f (t.dev d)).ier = (t.dev d).ier) : TouchesOnly d s (t.modDev d f) :=
  h.step (summary_modDev h.1 d hf) fun e he => State.dev_modDev_of_ne t d e f he

theorem touchesOnly_keptBySpeechEdits (d : DevIx) (s : State) : KeptBySpeechEdits d (TouchesOnly d s) where
  store _ _ hf h := h.modDev ⟨hf.ifr, hf.ier⟩
  clearFlags m t h := h.recomputed (clearFlags_summary d m t) _ fun e => clearFlags_dev d e m t
  arm t h := h.step (summary_arm h.1 d) fun e _ => arm_dev d e t
  writeIer v t h := h.recomputed (writeIer_summary d v t) _ fun e => writeIer_dev d e v t
  play code via _ h := h.step (summary_play h.1 d code via) fun _ _ => rfl
  setSpeechLine l _ h := h.step (summary_setSpeechLine h.1 l) fun _ _ => rfl
  clearPin _ h := h.modDev ⟨rfl, rfl⟩
  setPin _ h := h.modDev ⟨rfl, rfl⟩
  storeDurPhon _ _ h := h.modDev ⟨rfl, rfl⟩
  setPeriph t h := h.recomputed (setFlags_summary d _ t) _ fun e => setFlags_dev d e _ t
  slotEmptied _ _ he h := h.step ((FlagsKept.of_dev he.dev).summary h.1) fun e _ => he.dev e

theorem TouchesOnly.psgDecode (h : TouchesOnly d s t) (cw : Byte) : TouchesOnly d s (psgDecode d cw t) := by
  have frame := psgDecode_frame d cw t
  exact h.step (frame.flagsKept.summary h.1) frame.others

theorem regWrite_touchesOnly (hs : s.Summary) (d : DevIx) (r : BitVec 4) (v : Byte) :
    TouchesOnly d s (regWrite d r v s) :=
  (touchesOnly_keptBySpeechEdits d s).regWrite r v (fun _ cw _ h => h.psgDecode cw) ⟨hs, fun _ _ => rfl⟩

theorem regRead_touchesOnly (hs : s.Summary) (d : DevIx) (r : BitVec 4) : TouchesOnly d s (regRead d r s).1 :=
  (touchesOnly_keptBySpeechEdits d s).regRead r ⟨hs, fun _ _ => rfl⟩

theorem spWrite_touchesOnly (hs : s.Summary) (d : DevIx) (r : Fin 5) (v : Byte) : TouchesOnly d s (spWrite d r v s) := by
  have start : TouchesOnly d s s := ⟨hs, fun _ _ => rfl⟩
  refine (touchesOnly_keptBySpeechEdits d s).spWrite r v (fun _ => ?_) start
  rw [writeCtrl_eq]
  exact start.modDev ⟨rfl, rfl⟩

/-- A speech register index with an operation is at most 4 (30_encoding.md R62). -/
theorem speechWriteInstr_le {r : BitVec 4} {v : Byte} {i : Instr} (h : speechWriteInstr r d v = some i) :
    r.toNat ≤ 4 := by
  unfold speechWriteInstr at h
  split at h
  case h_6 => cases h
  all_goals omega

theorem speechReadInstr_le {r : BitVec 4} {i : Instr} (h : speechReadInstr r d = some i) : r.toNat ≤ 4 := by
  unfold speechReadInstr at h
  split at h
  case h_6 => cases h
  all_goals omega

/-- Settles O54: each of the four kinds of access is made of changes of its own device and runs of the aggregator. -/
theorem registerAccessTouchesOneDevice : Obligations.RegisterAccessTouchesOneDevice := by
  intro s t reg d e v i hs hi hx he
  obtain rfl | rfl | hi | hi := hi
  · rw [exec_piaWriteInstr] at hx
    obtain ⟨-, rfl⟩ := performs_next hx
    exact (regWrite_touchesOnly hs d reg v).2 e he
  · rw [exec_piaReadInstr] at hx
    obtain ⟨-, rfl⟩ := answers_next hx
    exact (regRead_touchesOnly hs d reg).2 e he
  · obtain ⟨j, hj, hexec⟩ := speechWriteInstr_of_le (speechWriteInstr_le hi) d v
    obtain rfl := Option.some.inj (hi.symm.trans hj)
    rw [hexec] at hx
    obtain ⟨-, rfl⟩ := performs_next hx
    exact (spWrite_touchesOnly hs d _ v).2 e he
  · obtain ⟨j, hj, hexec⟩ := speechReadInstr_of_le (speechReadInstr_le hi) d
    obtain rfl := Option.some.inj (hi.symm.trans hj)
    rw [hexec] at hx
    obtain ⟨-, rfl⟩ := answers_next hx
    rfl

end Sys2Proof.Machine
end

section
/-! Which operations complete: with operands in their domain every operation of an attached block, and on a detached
block ATTACH alone (00_scope.md R4, 45_system_ops.md R216). -/

namespace Sys2Proof.Machine

theorem performs_completes {s : State} (hs : s.attached = true) (f : State → State) : ∃ t, performs f s = .next t :=
  ⟨_, performs_of_attached hs f⟩

theorem answers_completes {s : State} (hs : s.attached = true) (f : State → State × Byte) :
    ∃ t, answers f s = .next t :=
  ⟨_, answers_of_attached hs f⟩

theorem accessTarget_completes {s : State} (hs : s.attached = true) (tgt : Target) (a : Access) :
    ∃ t, accessTarget tgt a s = .next t := by
  cases a with
  | read => exact answers_completes hs _
  | write v => exact performs_completes hs _

theorem execTick_of_le {s : State} {n : Nat} (hs : s.attached = true) (hn : n ≤ tickMax) :
    execTick n s = .next ((tickBy (BitVec.ofNat 16 n) s).returns none) :=
  (whenAttached_of_attached hs _).trans (if_neg (Nat.not_lt.mpr hn))

theorem execTick_of_gt {s : State} {n : Nat} (hs : s.attached = true) (hn : n > tickMax) :
    execTick n s = .refused .tickCountOutOfRange :=
  (whenAttached_of_attached hs _).trans (if_pos hn)

theorem execSnaprestore_of_typed {s : State} {S : Block} (hs : s.attached = true) (hS : S.typeOk = true) :
    execSnaprestore S s = .next ((restoreBlock S s).returns none) :=
  (whenAttached_of_attached hs _).trans (if_pos hS)

theorem execSnaprestore_of_not_typed {s : State} {S : Block} (hs : s.attached = true) (hS : ¬S.typeOk = true) :
    execSnaprestore S s = .refused .snapshotIllTyped :=
  (whenAttached_of_attached hs _).trans (if_neg hS)

theorem execSnapsave_of_attached {s : State} (hs : s.attached = true) :
    execSnapsave s = .next (s.returns (some (.snapshot s.blk))) :=
  whenAttached_of_attached hs _

/-- An offset in one of the three ranges has a target (30_encoding.md R70). -/
theorem windowTarget_isSome (c : CardIx) {off : Byte}
    (h : off.toNat ≤ 0x0F ∨ (0x40 ≤ off.toNat ∧ off.toNat ≤ 0x44) ∨ (0x80 ≤ off.toNat ∧ off.toNat ≤ 0x8F)) :
    ∃ tgt, windowTarget c off = some tgt := by
  obtain h | h | h := h
  exacts [⟨_, windowTarget_piaA c h⟩, ⟨_, windowTarget_speech c h⟩, ⟨_, windowTarget_piaB c h⟩]

/-- A window access can be made at this offset: in native mode everywhere, else in one of the three ranges. -/
def OffsetKnown (s : State) (off : Byte) : Prop :=
  s.blk.nativeMode = true ∨ off.toNat ≤ 0x0F ∨ (0x40 ≤ off.toNat ∧ off.toNat ≤ 0x44) ∨
    (0x80 ≤ off.toNat ∧ off.toNat ≤ 0x8F)

theorem execBusr_completes {s : State} {c off : Byte} (hs : s.attached = true) (hc : c.toNat ≤ 1)
    (ho : OffsetKnown s off) : ∃ t, execBusr c off s = .next t := by
  rw [execBusr_of_card hs hc]
  split
  next => exact answers_completes hs _
  next hn =>
    obtain ⟨tgt, htgt⟩ := windowTarget_isSome ⟨c.toNat, by omega⟩ (ho.resolve_left hn)
    rw [htgt]
    exact answers_completes hs _

theorem execBusw_completes {s : State} {c off v : Byte} (hs : s.attached = true) (hc : c.toNat ≤ 1)
    (ho : OffsetKnown s off) : ∃ t, execBusw c off v s = .next t := by
  rw [execBusw_of_card hs hc]
  split
  next => exact performs_completes hs _
  next hn =>
    obtain ⟨tgt, htgt⟩ := windowTarget_isSome ⟨c.toNat, by omega⟩ (ho.resolve_left hn)
    rw [htgt]
    exact performs_completes hs _

/-- Settles O52: by kind; the tick, the restore and the two bus operations are where the domain is needed. -/
theorem everyOperationInDomainCompletes : Obligations.EveryOperationInDomainCompletes := by
  intro i s hs hwf hoff
  obtain ⟨m, hm, he⟩ := exec_meaning i
  rw [he]
  cases hm with
  | piaWrite | speechWrite | done | reset | config | detach => exact performs_completes hs _
  | psgReset | psgInactive | psgRead | psgWrite | psgLatch => exact performs_completes hs _
  | piaRead | speechRead => exact answers_completes hs _
  | tick n => exact ⟨_, execTick_of_le hs (of_decide_eq_true hwf)⟩
  | attach => exact ⟨_, rfl⟩
  | snapsave => exact ⟨_, execSnapsave_of_attached hs⟩
  | snaprestore S => exact ⟨_, execSnaprestore_of_typed hs hwf⟩
  | busr c off => exact execBusr_completes hs (of_decide_eq_true hwf) (hoff c off 0 (.inl rfl))
  | busw c off v => exact execBusw_completes hs (of_decide_eq_true hwf) (hoff c off v (.inr rfl))
  | winPiaA | winSpeech03 | winSpeech4 | winPiaB => exact accessTarget_completes hs _ _

/-! ## On a detached block -/

theorem accessTarget_of_detached {s : State} (hs : s.attached = false) (tgt : Target) (a : Access) :
    accessTarget tgt a s = .refused .detached := by
  cases a with
  | read => exact answers_of_detached hs _
  | write v => exact performs_of_detached hs _

/-- Settles O17: DETACH touches no event, and the meaning of every kind but ATTACH begins with the test of the flag. -/
theorem detachAdmitsOnlyAttach : Obligations.DetachAdmitsOnlyAttach := by
  refine ⟨fun s hs => ⟨_, performs_of_attached hs detachBlock, rfl, rfl, rfl, rfl, rfl, rfl⟩, fun s i hs hi => ?_⟩
  obtain ⟨m, hm, he⟩ := exec_meaning i
  rw [he]
  cases hm with
  | piaWrite | speechWrite | done | reset | config | detach => exact performs_of_detached hs _
  | psgReset | psgInactive | psgRead | psgWrite | psgLatch => exact performs_of_detached hs _
  | piaRead | speechRead => exact answers_of_detached hs _
  | tick | snapsave | snaprestore | busr | busw => exact whenAttached_of_detached hs _
  | attach e m => exact absurd rfl (hi e m)
  | winPiaA | winSpeech03 | winSpeech4 | winPiaB => exact accessTarget_of_detached hs _ _

theorem execBusr_of_noCard {s : State} {c off : Byte} (hs : s.attached = true) (hc : c.toNat > 1) :
    execBusr c off s = .refused .noSuchCard := by
  unfold execBusr
  rw [whenAttached_of_attached hs, cardOf_of_gt hc]

theorem execBusw_of_noCard {s : State} {c off v : Byte} (hs : s.attached = true) (hc : c.toNat > 1) :
    execBusw c off v s = .refused .noSuchCard := by
  unfold execBusw
  rw [whenAttached_of_attached hs, cardOf_of_gt hc]

/-- Settles O53: each refusal is the guard of its operation, met before anything else of it. -/
theorem contractViolationsRefused : Obligations.ContractViolationsRefused := by
  intro s hs
  refine ⟨fun n hn => execTick_of_gt hs hn, fun c off hc => ?_, fun c off v hc => ?_, fun S hS => ?_⟩
  · exact execBusr_of_noCard hs hc
  · exact execBusw_of_noCard hs hc
  · exact execSnaprestore_of_not_typed hs fun h => hS ((Block.typeOk_iff S).mp h)

end Sys2Proof.Machine
end

section
/-! The plain bytes of a device (the serial placeholder and three speech registers) are seen by no operation but SNAPSAVE.
Every part of an operation but a write of a plain byte commutes with erasing them; a write of one is erased. -/

namespace Sys2Proof.Machine

variable {s s' t : State}

/-! ## Erasing and the small operations of the state -/

@[simp] theorem dev_erasePlain (s : State) (d : DevIx) : s.erasePlain.dev d = (s.dev d).erasePlain := by
  simp [State.erasePlain, State.dev]

/-- Erasing after a change of one device is a change of the erased state. -/
theorem erase_modDev {d : DevIx} (f g : Device → Device) (h : (f (s.dev d)).erasePlain = g (s.dev d).erasePlain) :
    (s.modDev d f).erasePlain = s.erasePlain.modDev d g := by
  suffices hdev : ∀ e, (s.modDev d f).erasePlain.dev e = (s.erasePlain.modDev d g).dev e by
    have hblk : (s.modDev d f).erasePlain.blk = (s.erasePlain.modDev d g).blk :=
      Block.eq_of_devs hdev rfl rfl rfl rfl rfl rfl rfl rfl
    exact congrArg (fun b => { s with blk := b }) hblk
  intro e
  rw [dev_erasePlain]
  by_cases he : e = d
  · subst he
    rw [State.dev_modDev_self, State.dev_modDev_self, dev_erasePlain, h]
  · rw [State.dev_modDev_of_ne _ _ _ _ he, State.dev_modDev_of_ne _ _ _ _ he, dev_erasePlain]

/-- A change of a plain byte is erased. -/
theorem erase_modDev_plain {d : DevIx} (f : Device → Device) (h : (f (s.dev d)).erasePlain = (s.dev d).erasePlain) :
    (s.modDev d f).erasePlain = s.erasePlain := by
  suffices hdev : ∀ e, (s.modDev d f).erasePlain.dev e = s.erasePlain.dev e by
    have hblk : (s.modDev d f).erasePlain.blk = s.erasePlain.blk :=
      Block.eq_of_devs hdev rfl rfl rfl rfl rfl rfl rfl rfl
    exact congrArg (fun b => { s with blk := b }) hblk
  intro e
  rw [dev_erasePlain, dev_erasePlain]
  by_cases he : e = d
  · subst he
    rw [State.dev_modDev_self, h]
  · rw [State.dev_modDev_of_ne _ _ _ _ he]

/-- Two branches that commute with erasing, under conditions that do not see the plain bytes. -/
theorem erase_ite {c c' : Prop} [Decidable c] [Decidable c'] (hc : c = c') {A B A' B' : State} (hA : A.erasePlain = A')
    (hB : B.erasePlain = B') : (if c then A else B).erasePlain = if c' then A' else B' := by
  subst hc
  split
  · exact hA
  · exact hB

/-! ## The parts that commute with erasing -/

/-- The part does what it does whatever the plain bytes are, and leaves them as they are. -/
def SeesNoPlain (F : State → State) : Prop := ∀ s, (F s).erasePlain = F s.erasePlain

theorem seesNoPlain_recompute : SeesNoPlain recompute := fun _ => rfl

theorem SeesNoPlain.comp {F G : State → State} (hF : SeesNoPlain F) (hG : SeesNoPlain G) :
    SeesNoPlain fun s => F (G s) := fun s => by rw [hF, hG]

theorem seesNoPlain_modDev (d : DevIx) (f : Device → Device) (hf : ∀ x, (f x).erasePlain = f x.erasePlain) :
    SeesNoPlain (·.modDev d f) := fun _ => erase_modDev f f (hf _)

theorem seesNoPlain_clearFlags (d : DevIx) (m : Byte) : SeesNoPlain (clearFlags d m) :=
  seesNoPlain_recompute.comp (seesNoPlain_modDev d _ fun _ => rfl)

theorem seesNoPlain_setFlags (d : DevIx) (m : Byte) : SeesNoPlain (setFlags d m) :=
  seesNoPlain_recompute.comp (seesNoPlain_modDev d _ fun _ => rfl)

theorem seesNoPlain_play (d : DevIx) (code : Phoneme) (via : Bool) : SeesNoPlain (play d code via) := fun _ => rfl

theorem seesNoPlain_setSpeechLine (l : Bool) : SeesNoPlain (setSpeechLine l) := fun _ => rfl

theorem seesNoPlain_arm (d : DevIx) : SeesNoPlain (arm d) := fun s => by
  unfold arm
  refine erase_ite (by rw [dev_erasePlain]; rfl) ?_ rfl
  rw [dev_erasePlain]
  rfl

theorem seesNoPlain_stop (d : DevIx) : SeesNoPlain (stop d) := fun _ => erase_ite rfl rfl rfl

theorem seesNoPlain_changeEnables (d : DevIx) (v : Byte) : SeesNoPlain (changeEnables d v) :=
  seesNoPlain_recompute.comp (seesNoPlain_modDev d _ fun _ => rfl)

theorem seesNoPlain_writeIer (d : DevIx) (v : Byte) : SeesNoPlain (writeIer d v) := fun s => by
  have enables := seesNoPlain_changeEnables d v s
  cases hv : v.getLsbD 7 with
  | true => rw [writeIer_of_set hv, writeIer_of_set hv, seesNoPlain_arm, enables]
  | false =>
    rw [writeIer_of_clear hv, writeIer_of_clear hv]
    exact erase_ite (by rw [← enables, dev_erasePlain]; rfl) enables (by rw [seesNoPlain_stop, enables])

/-! ### The sound-generator decoder -/

theorem seesNoPlain_psgResetChip (d : DevIx) (k : ChipIx) : SeesNoPlain (psgResetChip d k) := fun s =>
  congrArg (State.emit · (.soundGeneratorReset (psgIndex d k)))
    (seesNoPlain_modDev d (fun x => x.resetChip k) (fun _ => rfl) s)

theorem seesNoPlain_psgWriteChip (d : DevIx) (k : ChipIx) : SeesNoPlain (psgWriteChip d k) := fun s => by
  unfold psgWriteChip
  rw [dev_erasePlain]
  exact congrArg (State.emit · (.soundGeneratorWrite (psgIndex d k) (s.dev d).curReg (s.dev d).ora))
    (seesNoPlain_modDev d (fun x => x.setPsgReg k x.curReg x.ora) (fun _ => rfl) s)

theorem seesNoPlain_psgLatchReg (d : DevIx) : SeesNoPlain (psgLatchReg d) := fun s => by
  unfold psgLatchReg
  rw [dev_erasePlain]
  exact erase_ite rfl (seesNoPlain_modDev d (fun x => { x with curReg := x.ora.setWidth 4 }) (fun _ => rfl) s) rfl

theorem seesNoPlain_psgFunc (d : DevIx) (k : ChipIx) (cw : Byte) : SeesNoPlain (psgFunc d k cw) := fun s => by
  unfold psgFunc
  split
  exacts [seesNoPlain_psgResetChip d k s, rfl, rfl, seesNoPlain_psgWriteChip d k s, seesNoPlain_psgLatchReg d s]

theorem seesNoPlain_psgDecode (d : DevIx) (cw : Byte) : SeesNoPlain (psgDecode d cw) := fun s => by
  have first : (if (chipSelect s.blk.nativeMode cw).getLsbD 0 then psgFunc d 0 cw s else s).erasePlain =
      if (chipSelect s.blk.nativeMode cw).getLsbD 0 then psgFunc d 0 cw s.erasePlain else s.erasePlain :=
    erase_ite rfl (seesNoPlain_psgFunc d 0 cw s) rfl
  exact erase_ite rfl ((seesNoPlain_psgFunc d 1 cw _).trans (congrArg (psgFunc d 1 cw) first)) first

theorem seesNoPlain_inDecoder (d : DevIx) {F : State → State} (hF : SeesNoPlain F) : SeesNoPlain (inDecoder d F) :=
  fun s => by
    unfold inDecoder
    rw [dev_erasePlain]
    exact erase_ite rfl rfl (hF s)

theorem seesNoPlain_onReachedChip (k : ChipIx) {F : State → State} (hF : SeesNoPlain F) :
    SeesNoPlain (onReachedChip k F) := fun s => erase_ite rfl (hF s) rfl

/-! ### The writes and reads of PIA registers -/

theorem seesNoPlain_writeOrb (d : DevIx) (v : Byte) : SeesNoPlain (writeOrb d v) := fun s => by
  have stored : ∀ pv : Byte, SeesNoPlain (·.modDev d fun x => { x with orb := pv }) := fun _ =>
    seesNoPlain_modDev d _ fun _ => rfl
  unfold writeOrb
  rw [dev_erasePlain]
  refine erase_ite rfl ?_ ((seesNoPlain_psgDecode d _).comp (stored _) s)
  exact ((seesNoPlain_play d _ true).comp (seesNoPlain_clearFlags d _)).comp (stored _) s

/-- The registers in the order of their indices (30_encoding.md R61). -/
theorem seesNoPlain_regWrite (d : DevIx) (r : BitVec 4) (v : Byte) : SeesNoPlain (regWrite d r v) := fun s => by
  have store : ∀ f : Device → Device, (∀ x, (f x).erasePlain = f x.erasePlain) → SeesNoPlain (·.modDev d f) :=
    seesNoPlain_modDev d
  have storeClear : ∀ (m : Byte) (f : Device → Device), (∀ x, (f x).erasePlain = f x.erasePlain) →
      SeesNoPlain fun s => clearFlags d m (s.modDev d f) := fun m f hf => (seesNoPlain_clearFlags d m).comp (store f hf)
  obtain ⟨⟨r, hr⟩⟩ := r
  interval_cases r
  · exact seesNoPlain_writeOrb d v s
  · exact store (fun x => { x with ora := portVal s.params v x.ddra }) (fun _ => rfl) s
  · exact store (fun x => { x with ddrb := v }) (fun _ => rfl) s
  · exact store (fun x => { x with ddra := v }) (fun _ => rfl) s
  · exact store (fun x => { x with t1l := withLow x.t1l v }) (fun _ => rfl) s
  · exact (seesNoPlain_arm d).comp
      (storeClear (bitMask t1Bit) (fun x => { x with t1l := withHigh x.t1l v, t1c := withHigh x.t1l v }) fun _ => rfl) s
  · exact store (fun x => { x with t1l := withLow x.t1l v }) (fun _ => rfl) s
  · exact storeClear (bitMask t1Bit) (fun x => { x with t1l := withHigh x.t1l v }) (fun _ => rfl) s
  · exact store (fun x => { x with t2l := withLow x.t2l v }) (fun _ => rfl) s
  · exact (store (fun x => { x with t2Armed := true }) fun _ => rfl).comp
      (storeClear (bitMask t2Bit) (fun x => { x with t2l := withHigh x.t2l v, t2c := withHigh x.t2l v }) fun _ => rfl) s
  · rfl
  · exact store (fun x => { x with acr := v }) (fun _ => rfl) s
  · exact store (fun x => { x with pcr := v }) (fun _ => rfl) s
  · exact seesNoPlain_clearFlags d v s
  · exact seesNoPlain_writeIer d v s
  · exact store (fun x => { x with ora := portVal s.params v x.ddra }) (fun _ => rfl) s

/-- A read answers what it answers whatever the plain bytes are; the read of SR answers 0 (40_pia_registers.md R130). -/
theorem regRead_erasePlain (d : DevIx) (r : BitVec 4) (s : State) :
    regRead d r s.erasePlain = ((regRead d r s).1.erasePlain, (regRead d r s).2) := by
  have stored : ∀ π : Device → Byte, (∀ x, π x.erasePlain = π x) →
      (s.erasePlain, π (s.erasePlain.dev d)) = (s.erasePlain, π (s.dev d)) := fun π hπ => by rw [dev_erasePlain, hπ]
  have counter : ∀ (m : Byte) (π : Device → Byte), (∀ x, π x.erasePlain = π x) →
      (clearFlags d m s.erasePlain, π (s.erasePlain.dev d)) = ((clearFlags d m s).erasePlain, π (s.dev d)) :=
    fun m π hπ => by rw [dev_erasePlain, hπ, seesNoPlain_clearFlags]
  obtain ⟨⟨r, hr⟩⟩ := r
  interval_cases r
  exacts [stored Device.orb fun _ => rfl, stored Device.ora fun _ => rfl, stored Device.ddrb fun _ => rfl,
    stored Device.ddra fun _ => rfl, counter _ (fun x => lowByte x.t1c) fun _ => rfl,
    stored (fun x => highByte x.t1c) fun _ => rfl, stored (fun x => lowByte x.t1l) fun _ => rfl,
    stored (fun x => highByte x.t1l) fun _ => rfl, counter _ (fun x => lowByte x.t2c) fun _ => rfl,
    stored (fun x => highByte x.t2c) fun _ => rfl, rfl, stored Device.acr fun _ => rfl, stored Device.pcr fun _ => rfl,
    stored Device.ifr fun _ => rfl, rfl, stored Device.ora fun _ => rfl]

/-! ### Speech -/

theorem seesNoPlain_clearSpeechCondition (d : DevIx) : SeesNoPlain (clearSpeechCondition d) := fun s => by
  have pin : SeesNoPlain (·.modDev d fun x => { x with spCur := x.spCur &&& ~~~(bitMask 0) }) :=
    seesNoPlain_modDev d _ fun _ => rfl
  cases he : s.blk.phasorEnable with
  | false =>
    rw [clearSpeechCondition_disabled he, clearSpeechCondition_disabled (s := s.erasePlain) he]
    exact pin.comp (seesNoPlain_clearFlags d _) s
  | true =>
    rw [clearSpeechCondition_enabled he, clearSpeechCondition_enabled (s := s.erasePlain) he]
    exact pin.comp (seesNoPlain_setSpeechLine false) s

theorem seesNoPlain_writeDurPhon (d : DevIx) (v : Byte) : SeesNoPlain (writeDurPhon d v) := fun s => by
  have stored := (seesNoPlain_modDev d (fun x => { x with spDurPhon := v }) fun _ => rfl).comp
    (seesNoPlain_clearSpeechCondition d) s
  unfold writeDurPhon
  dsimp only at stored ⊢
  rw [← stored]
  exact erase_ite rfl rfl (seesNoPlain_play d _ false _)

theorem seesNoPlain_writeCtrl (d : DevIx) (v : Byte) : SeesNoPlain (writeCtrl d v) := fun s => by
  rw [writeCtrl_eq, writeCtrl_eq]
  exact erase_modDev _ _ rfl

theorem seesNoPlain_completeNative (d : DevIx) : SeesNoPlain (completeNative d) := fun s => by
  have pin : SeesNoPlain (·.modDev d fun x => { x with spCur := x.spCur ||| bitMask 0 }) :=
    seesNoPlain_modDev d _ fun _ => rfl
  unfold completeNative
  rw [dev_erasePlain]
  refine erase_ite rfl rfl ?_
  exact erase_ite rfl ((seesNoPlain_setSpeechLine true).comp pin s)
    ((seesNoPlain_setFlags d (periphMask s.params)).comp pin s)

theorem emptiedSlot_erasePlain (s : State) :
    emptiedSlot s.erasePlain = ((emptiedSlot s).1, (emptiedSlot s).2.erasePlain) := by
  unfold emptiedSlot
  cases ho : s.blk.speechOwner with
  | none =>
    rw [completionDevice_of_none (by exact ho), completionDevice_of_none (by exact ho)]
    rfl
  | some d =>
    rw [completionDevice_of_owner (by exact ho), completionDevice_of_owner (by exact ho)]
    rfl

theorem seesNoPlain_phonemeDone : SeesNoPlain phonemeDone := fun s => by
  cases hp : s.blk.activePhoneme with
  | none => rw [phonemeDone_idle hp, phonemeDone_idle (s := s.erasePlain) hp]
  | some p =>
    rw [phonemeDone_of_active hp, phonemeDone_of_active (s := s.erasePlain) hp, emptiedSlot_erasePlain]
    exact erase_ite rfl (seesNoPlain_setFlags _ _ _) (seesNoPlain_completeNative _ _)

/-! ### The tick -/

theorem tick1_erasePlain (d : DevIx) (n : Half) (s : State) :
    tick1 d n s.erasePlain = ((tick1 d n s).1.erasePlain, (tick1 d n s).2) := by
  have counted : ∀ c : Half, SeesNoPlain (·.modDev d fun x => { x with t1c := c }) := fun _ =>
    seesNoPlain_modDev d _ fun _ => rfl
  have flagged : SeesNoPlain (·.modDev d fun x => { x with ifr := x.ifr ||| bitMask t1Bit }) :=
    seesNoPlain_modDev d _ fun _ => rfl
  have reloaded : SeesNoPlain (·.modDev d fun x => { x with t1c := x.t1l }) := seesNoPlain_modDev d _ fun _ => rfl
  unfold tick1
  rw [dev_erasePlain]
  by_cases h : n.toNat > (s.dev d).t1c.toNat ∧ s.blk.timerOwner = some d
  · rw [if_pos h, if_pos (by exact h)]
    by_cases hmode : (s.dev d).acr.getLsbD runModeBit = true
    · rw [if_pos hmode, if_pos (by exact hmode)]
      exact Prod.ext ((seesNoPlain_arm d).comp (reloaded.comp (flagged.comp (counted _))) s).symm rfl
    · rw [if_neg hmode, if_neg (by exact hmode)]
      exact Prod.ext ((seesNoPlain_stop d).comp (flagged.comp (counted _)) s).symm rfl
  · rw [if_neg h, if_neg (by exact h)]
    exact Prod.ext (counted _ s).symm rfl

theorem tick2_erasePlain (d : DevIx) (n : Half) (s : State) :
    tick2 d n s.erasePlain = ((tick2 d n s).1.erasePlain, (tick2 d n s).2) := by
  have counted : ∀ c : Half, SeesNoPlain (·.modDev d fun x => { x with t2c := c }) := fun _ =>
    seesNoPlain_modDev d _ fun _ => rfl
  have flagged : SeesNoPlain (·.modDev d fun x => { x with ifr := x.ifr ||| bitMask t2Bit, t2Armed := false }) :=
    seesNoPlain_modDev d _ fun _ => rfl
  unfold tick2
  rw [dev_erasePlain]
  by_cases h : n.toNat > (s.dev d).t2c.toNat ∧ (s.dev d).t2Armed = true
  · rw [if_pos h, if_pos (by exact h)]
    exact Prod.ext (flagged.comp (counted _) s).symm rfl
  · rw [if_neg h, if_neg (by exact h)]
    exact Prod.ext (counted _ s).symm rfl

theorem tickDevice_erasePlain (n : Half) (s : State) (fired : Bool) (d : DevIx) :
    tickDevice n (s.erasePlain, fired) d =
      ((tickDevice n (s, fired) d).1.erasePlain, (tickDevice n (s, fired) d).2) := by
  simp only [tickDevice, tick1_erasePlain, tick2_erasePlain]

theorem tickDevices_erasePlain (n : Half) (l : List DevIx) : ∀ (s : State) (fired : Bool),
    l.foldl (tickDevice n) (s.erasePlain, fired) =
      ((l.foldl (tickDevice n) (s, fired)).1.erasePlain, (l.foldl (tickDevice n) (s, fired)).2) := by
  induction l with
  | nil => exact fun _ _ => rfl
  | cons d l ih =>
    intro s fired
    rw [List.foldl_cons, List.foldl_cons, tickDevice_erasePlain, ih]

theorem seesNoPlain_tickBy (n : Half) : SeesNoPlain (tickBy n) := fun s => by
  have all : tickAll n s.erasePlain = ((tickAll n s).1.erasePlain, (tickAll n s).2) := tickDevices_erasePlain n _ s false
  unfold tickBy
  rw [all]
  exact erase_ite rfl (seesNoPlain_recompute _) rfl

/-! ## Two states that differ in the plain bytes -/

/-- The part takes states that differ at most in the plain bytes to such states. -/
def Blind (F : State → State) : Prop := ∀ s s', s.erasePlain = s'.erasePlain → (F s).erasePlain = (F s').erasePlain

/-- The read does so too, and answers the same byte. -/
def BlindRead (F : State → State × Byte) : Prop :=
  ∀ s s', s.erasePlain = s'.erasePlain → (F s).1.erasePlain = (F s').1.erasePlain ∧ (F s).2 = (F s').2

theorem SeesNoPlain.blind {F : State → State} (h : SeesNoPlain F) : Blind F := fun s s' hs => by rw [h, h, hs]

theorem Blind.comp {F G : State → State} (hF : Blind F) (hG : Blind G) : Blind fun s => F (G s) :=
  fun s s' hs => hF _ _ (hG s s' hs)

theorem blind_storePlain (d : DevIx) (f : Device → Device) (hf : ∀ x, (f x).erasePlain = x.erasePlain) :
    Blind (·.modDev d f) := fun _ _ hs => by
  simp only [erase_modDev_plain f (hf _), hs]

/-- The writes of speech registers: three store a plain byte (43_speech.md R181, R182, R184). -/
theorem blind_spWrite (d : DevIx) (r : Fin 5) (v : Byte) : Blind (spWrite d r v) := by
  match r with
  | 0 => exact (seesNoPlain_writeDurPhon d v).blind
  | 1 => exact blind_storePlain d (fun x => { x with spInflect := v }) fun _ => rfl
  | 2 => exact blind_storePlain d (fun x => { x with spRateInf := v }) fun _ => rfl
  | 3 => exact (seesNoPlain_writeCtrl d v).blind
  | 4 => exact blind_storePlain d (fun x => { x with spFilt := v }) fun _ => rfl

theorem blindRead_regRead (d : DevIx) (r : BitVec 4) : BlindRead (regRead d r) := fun s s' hs =>
  Prod.mk.inj ((regRead_erasePlain d r s).symm.trans ((congrArg (regRead d r) hs).trans (regRead_erasePlain d r s')))

/-- The read of the pin (43_speech.md R185). -/
theorem blindRead_spRead (d : DevIx) (r : Fin 5) : BlindRead (spRead d r) := fun s s' hs => by
  have hdev : (s.dev d).erasePlain = (s'.dev d).erasePlain := by rw [← dev_erasePlain, hs, dev_erasePlain]
  have hcur : (s.dev d).erasePlain.spCur = (s'.dev d).erasePlain.spCur := congrArg Device.spCur hdev
  exact ⟨hs, congrArg (fun c : Byte => (c &&& bitMask 0) <<< 7) hcur⟩

/-! ### The window -/

theorem blind_writeTarget (v : Byte) (tgt : Target) : Blind (writeTarget v tgt) := by
  cases tgt with
  | pia d r => exact (seesNoPlain_regWrite d r v).blind
  | speech d r => exact blind_spWrite d r v

theorem blindRead_readTarget (tgt : Target) : BlindRead (readTarget tgt) := by
  cases tgt with
  | pia d r => exact blindRead_regRead d r
  | speech d r => exact blindRead_spRead d r

theorem blind_writeIf (sel : Bool) {F : State → State} (hF : Blind F) : Blind (writeIf sel F) := by
  cases sel with
  | false => exact fun _ _ hs => hs
  | true => exact hF

theorem blind_nativeWrite (selA selB : Bool) (c : CardIx) (off v : Byte) : Blind (nativeWrite selA selB c off v) := by
  have pia : ∀ sel d, Blind (writeIf sel (regWrite d (off.setWidth 4) v)) := fun sel d =>
    blind_writeIf sel (seesNoPlain_regWrite d _ v).blind
  have both := (pia selB (cardB c)).comp (pia selA (cardA c))
  unfold nativeWrite
  cases speechRegAt off with
  | none => exact both
  | some r => exact (blind_spWrite (cardB c) r v).comp both

/-- A read that takes part in an access keeps the states alike and the bytes the same. -/
theorem blind_readIf (sel : Bool) {F : State → State × Byte} (hF : BlindRead F) {p p' : State × Byte}
    (hp : p.1.erasePlain = p'.1.erasePlain ∧ p.2 = p'.2) :
    (readIf sel F p).1.erasePlain = (readIf sel F p').1.erasePlain ∧ (readIf sel F p).2 = (readIf sel F p').2 := by
  cases sel with
  | false => exact hp
  | true =>
    obtain ⟨hstate, hbyte⟩ := hF _ _ hp.1
    exact ⟨hstate, congrArg₂ (· ||| ·) hp.2 hbyte⟩

theorem blindRead_nativeRead (selA selB : Bool) (c : CardIx) (off : Byte) : BlindRead (nativeRead selA selB c off) := by
  intro s s' hs
  have hA := blind_readIf selA (blindRead_regRead (cardA c) (off.setWidth 4)) (p := (s, 0#8)) (p' := (s', 0#8)) ⟨hs, rfl⟩
  have hB := blind_readIf selB (blindRead_regRead (cardB c) (off.setWidth 4)) hA
  unfold nativeRead
  cases speechRegAt off with
  | none => exact hB
  | some r => exact blind_readIf true (blindRead_spRead (cardB c) r) hB

/-! ## Every operation -/

/-- The card an operand names is its value, at most 1. -/
theorem card_of_cardOf {c : Byte} {card : CardIx} (h : cardOf c = some card) :
    ∃ hle : c.toNat ≤ 1, card = ⟨c.toNat, by omega⟩ := by
  unfold cardOf at h
  split at h
  next hlt => exact ⟨by omega, (Option.some.inj h).symm⟩
  next => cases h

/-- The answer in `s'` is that of `s`, up to the plain bytes. -/
def AnswersAlike (m : State → Answer) (s s' : State) : Prop :=
  ∀ t, m s = .next t → ∃ t', m s' = .next t' ∧ t.erasePlain = t'.erasePlain

theorem Blind.performs {F : State → State} (hF : Blind F) (hs : s.erasePlain = s'.erasePlain) :
    AnswersAlike (performs F) s s' := by
  intro t hx
  obtain ⟨ha, rfl⟩ := performs_next hx
  have ha' : s'.attached = true := (congrArg State.attached hs).symm.trans ha
  exact ⟨_, performs_of_attached ha' F, congrArg (State.returns · none) (hF s s' hs)⟩

theorem BlindRead.answers {F : State → State × Byte} (hF : BlindRead F) (hs : s.erasePlain = s'.erasePlain) :
    AnswersAlike (answers F) s s' := by
  intro t hx
  obtain ⟨ha, rfl⟩ := answers_next hx
  have ha' : s'.attached = true := (congrArg State.attached hs).symm.trans ha
  obtain ⟨hstate, hbyte⟩ := hF s s' hs
  refine ⟨_, answers_of_attached ha' F, ?_⟩
  rw [hbyte]
  exact congrArg (State.returns · (some (.byte (F s').2))) hstate

theorem answersAlike_accessTarget (tgt : Target) (a : Access) (hs : s.erasePlain = s'.erasePlain) :
    AnswersAlike (accessTarget tgt a) s s' := by
  cases a with
  | read => exact (blindRead_readTarget tgt).answers hs
  | write v => exact (blind_writeTarget v tgt).performs hs

/-- The layout does not see the plain bytes. -/
theorem nativeMode_of_alike (hs : s.erasePlain = s'.erasePlain) : s.blk.nativeMode = s'.blk.nativeMode := by
  show s.erasePlain.blk.nativeMode = s'.erasePlain.blk.nativeMode
  rw [hs]

theorem answersAlike_busr (c off : Byte) (hs : s.erasePlain = s'.erasePlain) : AnswersAlike (execBusr c off) s s' := by
  intro t hx
  have ha : s.attached = true := (whenAttached_next hx).1
  have ha' : s'.attached = true := (congrArg State.attached hs).symm.trans ha
  obtain ⟨card, hc, ⟨hn, hx⟩ | ⟨hn, tgt, htgt, hx⟩⟩ := execBusr_next hx
  · obtain ⟨hle, rfl⟩ := card_of_cardOf hc
    rw [execBusr_of_card ha' hle, if_pos (nativeMode_of_alike hs ▸ hn)]
    exact (blindRead_nativeRead _ _ _ off).answers hs t hx
  · obtain ⟨hle, rfl⟩ := card_of_cardOf hc
    rw [execBusr_of_card ha' hle, if_neg (by rw [← nativeMode_of_alike hs, hn]; decide), htgt]
    exact (blindRead_readTarget tgt).answers hs t hx

theorem answersAlike_busw (c off v : Byte) (hs : s.erasePlain = s'.erasePlain) :
    AnswersAlike (execBusw c off v) s s' := by
  intro t hx
  have ha : s.attached = true := (whenAttached_next hx).1
  have ha' : s'.attached = true := (congrArg State.attached hs).symm.trans ha
  obtain ⟨card, hc, ⟨hn, hx⟩ | ⟨hn, tgt, htgt, hx⟩⟩ := execBusw_next hx
  · obtain ⟨hle, rfl⟩ := card_of_cardOf hc
    rw [execBusw_of_card ha' hle, if_pos (nativeMode_of_alike hs ▸ hn)]
    exact (blind_nativeWrite _ _ _ off v).performs hs t hx
  · obtain ⟨hle, rfl⟩ := card_of_cardOf hc
    rw [execBusw_of_card ha' hle, if_neg (by rw [← nativeMode_of_alike hs, hn]; decide), htgt]
    exact (blind_writeTarget v tgt).performs hs t hx

/-- A tick, which is refused by its count alone. -/
theorem answersAlike_tick (n : Nat) (hs : s.erasePlain = s'.erasePlain) : AnswersAlike (execTick n) s s' := by
  intro t hx
  obtain ⟨ha, hn, rfl⟩ := execTick_next hx
  have ha' : s'.attached = true := (congrArg State.attached hs).symm.trans ha
  exact ⟨_, execTick_of_le ha' hn, congrArg (State.returns · none) ((seesNoPlain_tickBy _).blind s s' hs)⟩

/-- A restore puts the saved block in the place of the block. -/
theorem answersAlike_snaprestore (S : Block) (hs : s.erasePlain = s'.erasePlain) :
    AnswersAlike (execSnaprestore S) s s' := by
  intro t hx
  obtain ⟨ha, hS, rfl⟩ := execSnaprestore_next hx
  have ha' : s'.attached = true := (congrArg State.attached hs).symm.trans ha
  have same : restoreBlock S s = restoreBlock S s' := by
    show restoreBlock S s.erasePlain = restoreBlock S s'.erasePlain
    rw [hs]
  exact ⟨_, execSnaprestore_of_typed ha' hS, by rw [same]⟩

/-- Settles O57: by kind. Every meaning commutes with erasing the plain bytes, stores one of them, or puts another block
in the place of the block. -/
theorem plainStorageIsInvisible : Obligations.PlainStorageIsInvisible := by
  intro i s s' t hi hs hx
  have replaced : ∀ F : State → State, (∀ s, F s.erasePlain = F s) → Blind F := fun F hF s s' hs => by
    rw [← hF s, hs, hF s']
  suffices h : AnswersAlike (exec i) s s' from h t hx
  obtain ⟨m, hm, he⟩ := exec_meaning i
  rw [he]
  cases hm with
  | piaWrite r d v => exact (seesNoPlain_regWrite d r v).blind.performs hs
  | piaRead r d => exact (blindRead_regRead d r).answers hs
  | speechWrite r d v => exact (blind_spWrite d r v).performs hs
  | speechRead r d => exact (blindRead_spRead d r).answers hs
  | tick n => exact answersAlike_tick n hs
  | done => exact seesNoPlain_phonemeDone.blind.performs hs
  | reset => exact (replaced resetBlock fun _ => rfl).performs hs
  | config e m => exact (SeesNoPlain.blind (F := configure e m) fun _ => rfl).performs hs
  | attach e m =>
    intro t hx
    cases hx
    exact ⟨_, rfl, congrArg (State.returns · none) (replaced (attachBlock e m) (fun _ => rfl) s s' hs)⟩
  | detach => exact (replaced detachBlock fun _ => rfl).performs hs
  | snapsave => exact absurd rfl hi
  | snaprestore S => exact answersAlike_snaprestore S hs
  | busr c off => exact answersAlike_busr c off hs
  | busw c off v => exact answersAlike_busw c off v hs
  | psgReset lo d k =>
    exact (seesNoPlain_inDecoder d (seesNoPlain_onReachedChip k (seesNoPlain_psgResetChip d k))).blind.performs hs
  | psgInactive | psgRead => exact (SeesNoPlain.blind (F := psgNothing) fun _ => rfl).performs hs
  | psgWrite d k =>
    exact (seesNoPlain_inDecoder d (seesNoPlain_onReachedChip k (seesNoPlain_psgWriteChip d k))).blind.performs hs
  | psgLatch d k => exact (seesNoPlain_inDecoder d (seesNoPlain_psgLatchReg d)).blind.performs hs
  | winPiaA | winSpeech03 | winSpeech4 | winPiaB => exact answersAlike_accessTarget _ _ hs

end Sys2Proof.Machine
end

section
/-! The decoder: it reads back what the encoder writes, its first byte decides the length of an operation, and it rejects
the reserved encodings (30_encoding.md sections 1, 8 and 9). -/

namespace Sys2Proof

open Sys2Proof.Machine (Block lowByte highByte tickMax)

/-! ## Decoding an encoding -/

/-- The two bytes of a tick count in range give it back (30_encoding.md R75). -/
theorem tickBytes_toNat {n : Nat} (hn : n ≤ tickMax) :
    (lowByte (BitVec.ofNat 16 n)).toNat + 256 * (highByte (BitVec.ofNat 16 n)).toNat = n := by
  have hlt : n < 65536 := Nat.lt_succ_of_le hn
  simp only [lowByte, highByte, BitVec.toNat_setWidth, BitVec.toNat_ushiftRight, BitVec.toNat_ofNat,
    Nat.shiftRight_eq_div_pow]
  omega

theorem decode_tick {n : Nat} (hn : n ≤ tickMax) (rest : List Token) :
    decode (encode (.tick n) ++ rest) = .ok (.tick n, rest) := by
  show Except.ok (Instr.tick ((lowByte (BitVec.ofNat 16 n)).toNat + 256 * (highByte (BitVec.ofNat 16 n)).toNat), rest) = _
  rw [tickBytes_toNat hn]

/-- The operand byte of CONFIG and ATTACH gives the two bits back. -/
theorem decodeEM_configByte (mk : Bool → Bool → Instr) (e m : Bool) (rest : List Token) :
    decodeEM mk (.byte (configByte e m) :: rest) = .ok (mk e m, rest) := by
  cases e <;> cases m <;> rfl

theorem decode_window {c : CardIx} {off : Byte} {a : Access} {i : Instr} (h : windowInstr c off a = some i)
    (rest : List Token) : decode (.window c off a :: rest) = .ok (i, rest) := by
  simp only [decode, h]

/-- Settles O4: by the format of the operation: device and data, device, event operands, control word, window offset. -/
theorem decodeEncodeAgree : Obligations.DecodeEncodeAgree := by
  intro i rest hwf
  cases i with
  | wOrb d v | wOra d v | wDdrb d v | wDdra d v | wT1cl d v | wT1ch d v | wT1ll d v | wT1lh d v | wT2l d v
  | wT2h d v | wSr d v | wAcr d v | wPcr d v | wIfr d v | wIer d v | wOran d v =>
    exact decodeDV_devByte (piaWriteInstr _) d v rest
  | rOrb d | rOra d | rDdrb d | rDdra d | rT1cl d | rT1ch d | rT1ll d | rT1lh d | rT2l d | rT2h d | rSr d
  | rAcr d | rPcr d | rIfr d | rIer d | rOran d =>
    exact decodeD_devByte (piaReadInstr _) d rest
  | swDurphon d v | swInflect d v | swRateinf d v | swCtrl d v | swFilt d v =>
    exact decodeDV_devByte (fun d v => (speechWriteInstr _ d v).getD (.swFilt d v)) d v rest
  | srDurphon d | srInflect d | srRateinf d | srCtrl d | srFilt d =>
    exact decodeD_devByte (fun d => (speechReadInstr _ d).getD (.srFilt d)) d rest
  | tick n => exact decode_tick (of_decide_eq_true hwf) rest
  | config e m => exact decodeEM_configByte .config e m rest
  | attach e m => exact decodeEM_configByte .attach e m rest
  | done | reset | detach | snapsave | snaprestore | busr | busw => rfl
  | psgReset lo d k => exact congrArg (fun i => Except.ok (i, rest)) (psgInstr_reset lo d k)
  | psgInactive | psgRead | psgWrite | psgLatch => rfl
  | winPiaA c reg a => exact decode_window (windowInstr_piaA c reg a) rest
  | winSpeech03 c reg a => exact decode_window (windowInstr_speech03 c reg a) rest
  | winSpeech4 c a => exact decode_window (i := .winSpeech4 c a) rfl rest
  | winPiaB c reg a => exact decode_window (windowInstr_piaB c reg a) rest

/-! ## Selectors by range (30_encoding.md R60) -/

theorem decodeSelector_pia {b : Byte} (h : b.toNat ≤ 0x1F) (rest : List Token) :
    decodeSelector b rest = decodePia (decide (0x10 ≤ b.toNat)) (b.setWidth 4) rest := by
  have fields : ∀ b : Byte, b.toNat ≤ 0x1F →
      b.getLsbD 7 = false ∧ (b >>> 5).toNat = 0 ∧ b.getLsbD 4 = decide (0x10 ≤ b.toNat) := by decide
  obtain ⟨h7, hunit, hrw⟩ := fields b h
  unfold decodeSelector
  rw [h7, hunit, hrw]
  rfl

theorem decodeSelector_speech {b : Byte} (h : 0x20 ≤ b.toNat ∧ b.toNat ≤ 0x3F) (rest : List Token) :
    decodeSelector b rest = decodeSpeech (decide (0x30 ≤ b.toNat)) (b.setWidth 4) rest := by
  have fields : ∀ b : Byte, 0x20 ≤ b.toNat ∧ b.toNat ≤ 0x3F →
      b.getLsbD 7 = false ∧ (b >>> 5).toNat = 1 ∧ b.getLsbD 4 = decide (0x30 ≤ b.toNat) := by decide
  obtain ⟨h7, hunit, hrw⟩ := fields b h
  unfold decodeSelector
  rw [h7, hunit, hrw]
  rfl

theorem decodeSelector_event {b : Byte} (h : 0x40 ≤ b.toNat ∧ b.toNat ≤ 0x4F) (rest : List Token) :
    decodeSelector b rest = decodeEvent (b.setWidth 4) rest := by
  have fields : ∀ b : Byte, 0x40 ≤ b.toNat ∧ b.toNat ≤ 0x4F →
      b.getLsbD 7 = false ∧ (b >>> 5).toNat = 2 ∧ b.getLsbD 4 = false := by decide
  obtain ⟨h7, hunit, hrw⟩ := fields b h
  unfold decodeSelector
  rw [h7, hunit, hrw]
  rfl

/-- Selectors of 0x50 and above: an event with the write bit, a PSG function, or bit 7 set (30_encoding.md R73). -/
theorem decodeSelector_reserved {b : Byte} (h : 0x50 ≤ b.toNat) (rest : List Token) :
    ∃ e, decodeSelector b rest = .error e := by
  have fields : ∀ b : Byte, 0x50 ≤ b.toNat → b.getLsbD 7 = true ∨
      b.getLsbD 7 = false ∧ ((b >>> 5).toNat = 2 ∧ b.getLsbD 4 = true ∨ (b >>> 5).toNat = 3) := by decide
  unfold decodeSelector
  obtain h7 | ⟨h7, ⟨hunit, hrw⟩ | hunit⟩ := fields b h
  · rw [h7]
    exact ⟨_, rfl⟩
  · rw [h7, hunit, hrw]
    exact ⟨_, rfl⟩
  · rw [h7, hunit]
    exact ⟨_, rfl⟩

theorem decodeSpeech_illegal {rw : Bool} {reg : BitVec 4} (h : ¬reg.toNat ≤ 4) (rest : List Token) :
    decodeSpeech rw reg rest = .error .speechRegisterOutOfRange := if_neg h

/-! ## The length of an operation -/

/-- How many tokens follow the selector of an event (30_encoding.md R75; log entry 21). -/
def eventOperands (code : BitVec 4) : Nat :=
  match code.toNat with
  | 0 => 2
  | 3 => 1
  | 4 => 1
  | 7 => 1
  | 8 => 2
  | 9 => 3
  | _ => 0

/-- How many tokens follow a selector byte (30_encoding.md R60, R75). -/
def selectorOperands (b : Byte) : Nat :=
  if b.toNat ≤ 0x3F then if b.getLsbD 4 then 2 else 1 else eventOperands (b.setWidth 4)

/-- The decoder accepts `ts` with `k` tokens gone. -/
def Takes (k : Nat) (ts : List Token) (x : Decoded) : Prop := ∀ i rest, x = .ok (i, rest) → ts.length = rest.length + k

theorem decodeD_takes (mk : DevIx → Instr) (ts : List Token) : Takes 1 ts (decodeD mk ts) := by
  intro i rest h
  obtain ⟨b, d, rfl, -, -⟩ := decodeD_ok h
  rfl

theorem decodeDV_takes (mk : DevIx → Byte → Instr) (ts : List Token) : Takes 2 ts (decodeDV mk ts) := by
  intro i rest h
  obtain ⟨b, d, v, rfl, -, -⟩ := decodeDV_ok h
  rfl

theorem decodeEM_takes (mk : Bool → Bool → Instr) (ts : List Token) : Takes 1 ts (decodeEM mk ts) := by
  intro i rest h
  unfold decodeEM at h
  split at h
  · split at h
    · cases h; rfl
    · cases h
  · cases h

theorem decodeTick_takes (ts : List Token) : Takes 2 ts (decodeTick ts) := by
  intro i rest h
  unfold decodeTick at h
  split at h
  · cases h; rfl
  · cases h

theorem decodeBusr_takes (ts : List Token) : Takes 2 ts (decodeBusr ts) := by
  intro i rest h
  unfold decodeBusr at h
  split at h
  · cases h; rfl
  · cases h

theorem decodeBusw_takes (ts : List Token) : Takes 3 ts (decodeBusw ts) := by
  intro i rest h
  unfold decodeBusw at h
  split at h
  · cases h; rfl
  · cases h

theorem decodeSnapshot_takes (ts : List Token) : Takes 1 ts (decodeSnapshot ts) := by
  intro i rest h
  unfold decodeSnapshot at h
  split at h
  · cases h; rfl
  · cases h

/-- An event without operands takes its selector alone. -/
theorem takes_zero (i : Instr) (ts : List Token) : Takes 0 ts (.ok (i, ts)) := by
  intro i rest h
  cases h
  rfl

theorem takes_error (k : Nat) (ts : List Token) (e : DecodeError) : Takes k ts (.error e) := nofun

theorem decodeEvent_takes (code : BitVec 4) (ts : List Token) : Takes (eventOperands code) ts (decodeEvent code ts) := by
  obtain ⟨⟨code, hcode⟩⟩ := code
  interval_cases code
  · exact decodeTick_takes ts
  iterate 2 exact takes_zero _ ts
  · exact decodeEM_takes .config ts
  · exact decodeEM_takes .attach ts
  iterate 2 exact takes_zero _ ts
  · exact decodeSnapshot_takes ts
  · exact decodeBusr_takes ts
  · exact decodeBusw_takes ts
  all_goals exact takes_error _ ts _

theorem decodePia_takes (rw : Bool) (reg : BitVec 4) (ts : List Token) :
    Takes (if rw then 2 else 1) ts (decodePia rw reg ts) := by
  cases rw with
  | false => exact decodeD_takes _ ts
  | true => exact decodeDV_takes _ ts

theorem decodeSpeech_takes (rw : Bool) (reg : BitVec 4) (ts : List Token) :
    Takes (if rw then 2 else 1) ts (decodeSpeech rw reg ts) := by
  by_cases hreg : reg.toNat ≤ 4
  · unfold decodeSpeech
    rw [if_pos hreg]
    cases rw with
    | false => exact decodeD_takes _ ts
    | true => exact decodeDV_takes _ ts
  · rw [decodeSpeech_illegal hreg]
    exact takes_error _ ts _

/-- How many tokens an operation takes is said by its selector byte alone. -/
theorem decodeSelector_takes (b : Byte) (ts : List Token) : Takes (selectorOperands b) ts (decodeSelector b ts) := by
  have pia : ∀ b : Byte, b.toNat ≤ 0x1F → selectorOperands b = if decide (0x10 ≤ b.toNat) then 2 else 1 := by decide
  have speech : ∀ b : Byte, 0x20 ≤ b.toNat ∧ b.toNat ≤ 0x3F →
      selectorOperands b = if decide (0x30 ≤ b.toNat) then 2 else 1 := by decide
  by_cases h₁ : b.toNat ≤ 0x1F
  · rw [decodeSelector_pia h₁, pia b h₁]
    exact decodePia_takes _ _ ts
  by_cases h₂ : b.toNat ≤ 0x3F
  · have h : 0x20 ≤ b.toNat ∧ b.toNat ≤ 0x3F := ⟨by omega, h₂⟩
    rw [decodeSelector_speech h, speech b h]
    exact decodeSpeech_takes _ _ ts
  by_cases h₃ : b.toNat ≤ 0x4F
  · rw [decodeSelector_event ⟨by omega, h₃⟩, selectorOperands, if_neg h₂]
    exact decodeEvent_takes _ ts
  · obtain ⟨e, he⟩ := decodeSelector_reserved (b := b) (by omega) ts
    rw [he]
    exact takes_error _ ts e

/-- Settles O5: both lists lose the number of tokens that the selector byte says. -/
theorem lengthDecidedByFirstByte : Obligations.LengthDecidedByFirstByte := by
  intro b r₁ r₂ t₁ t₂ i₁ i₂ h₁ h₂
  have l₁ := decodeSelector_takes b r₁ i₁ t₁ h₁
  have l₂ := decodeSelector_takes b r₂ i₂ t₂ h₂
  omega

/-! ## Reserved encodings (30_encoding.md R73) -/

theorem decodeD_deviceOutOfRange (mk : DevIx → Instr) {d : Byte} (hd : 4 ≤ d.toNat) (rest : List Token) :
    decodeD mk (.byte d :: rest) = .error .deviceOutOfRange := by
  simp only [decodeD, decodeDevice_of_ge hd, Except.map]

theorem decodeDV_deviceOutOfRange (mk : DevIx → Byte → Instr) {d : Byte} (hd : 4 ≤ d.toNat) (v : Byte)
    (rest : List Token) : decodeDV mk (.byte d :: .byte v :: rest) = .error .deviceOutOfRange := by
  simp only [decodeDV, decodeDevice_of_ge hd, Except.map]

/-- A write whose device byte is above 3 is rejected whatever follows. -/
theorem decodeDV_rejects (mk : DevIx → Byte → Instr) {d : Byte} (hd : 4 ≤ d.toNat) (rest : List Token) :
    ∃ e, decodeDV mk (.byte d :: rest) = .error e := by
  cases hx : decodeDV mk (.byte d :: rest) with
  | error e => exact ⟨e, rfl⟩
  | ok p =>
    obtain ⟨b, d', v, hts, hdev, -⟩ := decodeDV_ok (i := p.1) (rest := p.2) hx
    cases hts
    rw [decodeDevice_of_ge hd] at hdev
    cases hdev

/-- The selectors of register accesses, by the direction: a read takes a device, a write a device and a data byte. -/
theorem decodeSelector_read {b : Byte} (hb : b.toNat ≤ 0x0F ∨ 0x20 ≤ b.toNat ∧ b.toNat ≤ 0x24) :
    ∃ mk, ∀ rest, decodeSelector b rest = decodeD mk rest := by
  obtain hb | hb := hb
  · refine ⟨piaReadInstr (b.setWidth 4), fun rest => ?_⟩
    rw [decodeSelector_pia (by omega), decide_eq_false (by omega)]
    rfl
  · have reg : ∀ b : Byte, 0x20 ≤ b.toNat ∧ b.toNat ≤ 0x24 → (b.setWidth 4).toNat ≤ 4 := by decide
    refine ⟨fun d => (speechReadInstr (b.setWidth 4) d).getD (.srFilt d), fun rest => ?_⟩
    rw [decodeSelector_speech ⟨hb.1, by omega⟩, decide_eq_false (by omega), decodeSpeech, if_pos (reg b hb)]
    rfl

theorem decodeSelector_write {b : Byte}
    (hb : 0x10 ≤ b.toNat ∧ b.toNat ≤ 0x1F ∨ 0x30 ≤ b.toNat ∧ b.toNat ≤ 0x34) :
    ∃ mk, ∀ rest, decodeSelector b rest = decodeDV mk rest := by
  obtain hb | hb := hb
  · refine ⟨piaWriteInstr (b.setWidth 4), fun rest => ?_⟩
    rw [decodeSelector_pia hb.2, decide_eq_true hb.1]
    rfl
  · have reg : ∀ b : Byte, 0x30 ≤ b.toNat ∧ b.toNat ≤ 0x34 → (b.setWidth 4).toNat ≤ 4 := by decide
    refine ⟨fun d v => (speechWriteInstr (b.setWidth 4) d v).getD (.swFilt d v), fun rest => ?_⟩
    rw [decodeSelector_speech ⟨by omega, by omega⟩, decide_eq_true hb.1, decodeSpeech, if_pos (reg b hb)]
    rfl

/-- The three reserved ranges: illegal speech registers, reserved event codes, and what is no selector. -/
theorem decodeSelector_reservedRange {b : Byte}
    (hb : 0x25 ≤ b.toNat ∧ b.toNat ≤ 0x2F ∨ 0x35 ≤ b.toNat ∧ b.toNat ≤ 0x3F ∨ 0x4A ≤ b.toNat) (rest : List Token) :
    ∃ e, decodeSelector b rest = .error e := by
  have speech : ∀ b : Byte, (0x25 ≤ b.toNat ∧ b.toNat ≤ 0x2F ∨ 0x35 ≤ b.toNat ∧ b.toNat ≤ 0x3F) →
      ¬(b.setWidth 4).toNat ≤ 4 := by decide
  have event : ∀ b : Byte, 0x4A ≤ b.toNat ∧ b.toNat ≤ 0x4F → 0xA ≤ (b.setWidth 4).toNat := by decide
  have reservedEvent : ∀ code : BitVec 4, 0xA ≤ code.toNat → decodeEvent code rest = .error .reservedEvent := by
    intro code hcode
    unfold decodeEvent
    split
    case h_11 => rfl
    all_goals omega
  by_cases h₁ : b.toNat ≤ 0x3F
  · rw [decodeSelector_speech ⟨by omega, h₁⟩, decodeSpeech_illegal (speech b (by omega))]
    exact ⟨_, rfl⟩
  by_cases h₂ : b.toNat ≤ 0x4F
  · rw [decodeSelector_event ⟨by omega, h₂⟩, reservedEvent _ (event b (by omega))]
    exact ⟨_, rfl⟩
  · exact decodeSelector_reserved (by omega) rest

/-- Settles O6: by the ranges of selectors, and by the direction for a device byte above 3. -/
theorem reservedEncodingsRejected : Obligations.ReservedEncodingsRejected := by
  have reads : ∀ (b d : Byte) (rest : List Token), (b.toNat ≤ 0x0F ∨ 0x20 ≤ b.toNat ∧ b.toNat ≤ 0x24) → 4 ≤ d.toNat →
      decode (.byte b :: .byte d :: rest) = .error .deviceOutOfRange := by
    intro b d rest hb hd
    obtain ⟨mk, hmk⟩ := decodeSelector_read hb
    exact (hmk _).trans (decodeD_deviceOutOfRange mk hd rest)
  refine ⟨fun b rest hb => decodeSelector_reservedRange hb rest, fun b d rest hb hd => ?_, reads,
    fun b d v rest hb hd => ?_⟩
  · by_cases hread : b.toNat ≤ 0x0F ∨ 0x20 ≤ b.toNat ∧ b.toNat ≤ 0x24
    · exact ⟨_, reads b d rest hread hd⟩
    · obtain ⟨mk, hmk⟩ := decodeSelector_write (b := b) (by omega)
      obtain ⟨e, he⟩ := decodeDV_rejects mk hd rest
      exact ⟨e, (hmk _).trans he⟩
  · obtain ⟨mk, hmk⟩ := decodeSelector_write hb
    exact (hmk _).trans (decodeDV_deviceOutOfRange mk hd v rest)

/-- Settles O3: each word is evaluated. -/
theorem wordsDecodeAsWritten : Obligations.WordsDecodeAsWritten :=
  ⟨rfl, rfl, rfl, rfl, rfl, rfl, rfl, rfl, rfl⟩

end Sys2Proof
end

section
/-! One step on what the decoder answers (20_memory.md R48; log entries 1, 2). -/

namespace Sys2Proof.Machine

theorem fetch_of_decoded {s : State} {i : Instr} {rest : List Token} (h : decode s.input = .ok (i, rest)) :
    fetch s = .operation i { s with input := rest } := by
  unfold fetch
  split
  next hi => rw [hi] at h; cases h
  next => simp only [h]

theorem fetch_of_rejected {s : State} {e : DecodeError} (hi : s.input ≠ []) (h : decode s.input = .error e) :
    fetch s = .rejected e := by
  unfold fetch
  split
  next hnil => exact absurd hnil hi
  next => simp only [h]

theorem fetch_of_idle {s : State} (h : s.input = []) : fetch s = .idle := by
  unfold fetch
  rw [h]

/-- Settles O1: the operation fetched is the one decoded, in the state without its tokens. -/
theorem stepRunsDecodedOperation : Obligations.StepRunsDecodedOperation := by
  intro s i rest h
  unfold step
  rw [fetch_of_decoded h]

/-- Settles O2: nothing is fetched from an empty input, and a rejection is passed on. -/
theorem stepWithoutAnOperation : Obligations.StepWithoutAnOperation := by
  refine ⟨fun s h => ?_, fun s e hi h => ?_⟩
  · unfold step
    rw [fetch_of_idle h]
  · unfold step
    rw [fetch_of_rejected hi h]

end Sys2Proof.Machine
end

section
/-! The system operations (45_system_ops.md, 70_reset_and_hazards.md): reset, attach, configuration, save and restore. -/

namespace Sys2Proof.Machine

/-! ## The state after reset -/

/-- Settles O14: the block of `State.reset` is the zero block. -/
theorem resetStateIsAllZero : Obligations.ResetStateIsAllZero :=
  ⟨Block.zero_atReset false false, rfl, rfl, Block.zero_piaIrqLevel false false, rfl⟩

/-- Settles O13: a zero block meets the invariants of its items, and an empty trace has told nothing. -/
theorem resetStateMeetsInvariants : Obligations.ResetStateMeetsInvariants :=
  ⟨by decide, .of_none rfl, typed_zero false false, modeByteOk_of_zero rfl, .of_idle rfl, fun _ => ⟨nofun, nofun⟩⟩

/-! ## Reset, attach and configuration -/

/-- Settles O15: the block that reset makes is the zero block under the old configuration, and its outputs are the eight
chip resets. -/
theorem resetClearsAllButConfiguration : Obligations.ResetClearsAllButConfiguration := by
  intro s hs
  refine ⟨_, performs_of_attached hs resetBlock, ?_, ?_, ?_, resetBlock_outputs s, ⟨rfl, rfl, rfl, rfl⟩, rfl⟩ <;>
    rw [State.returns_blk, resetBlock_blk]
  · exact Block.zero_atReset _ _
  · exact Block.zero_piaIrqLevel _ _
  · rfl

/-- Settles O16: the block that attach makes is the zero block under the given configuration. -/
theorem attachCreatesTheBlock : Obligations.AttachCreatesTheBlock := by
  intro s e m
  refine ⟨(attachBlock e m s).returns none, rfl, ?_, rfl, ?_, ?_, attachBlock_outputs e m s, rfl, rfl, rfl, rfl⟩ <;>
    rw [State.returns_blk, attachBlock_blk]
  · exact Block.zero_atReset e m
  · exact Block.zero_piaIrqLevel e m
  · rfl

/-- Settles O18: the meaning of CONFIG is an update of the two bits (45_system_ops.md R210). -/
theorem configSetsPhasorStateOnly : Obligations.ConfigSetsPhasorStateOnly := fun _ e m hs =>
  ⟨_, performs_of_attached hs (configure e m), rfl, ⟨rfl, rfl, rfl, rfl⟩, rfl, rfl⟩

/-! ## Save and restore -/

/-- Settles O19: SNAPSAVE answers the block and nothing else (45_system_ops.md R211). -/
theorem snapshotSaveReturnsTheBlock : Obligations.SnapshotSaveReturnsTheBlock := fun s hs =>
  ⟨_, execSnapsave_of_attached hs, NothingBut.returns s _⟩

theorem restoreBlock_dev (S : Block) (s : State) (d : DevIx) : (restoreBlock S s).dev d = (S.dev d).summarise := by
  rw [State.dev, restoreBlock_blk, Block.summarise, Block.dev_mapDevs]

/-- Settles O20: a restored block is the saved one after the aggregator (45_system_ops.md R212). -/
theorem snapshotRestoreRecomputesSummaries : Obligations.SnapshotRestoreRecomputesSummaries := by
  intro s S hs hS
  refine ⟨_, execSnaprestore_of_typed hs ((Block.typeOk_iff S).mpr hS), fun d => ?_, restoreBlock_summary S s,
    ⟨⟨rfl, rfl⟩, ⟨rfl, rfl⟩, rfl, rfl, rfl, rfl⟩, ⟨rfl, rfl, rfl, rfl⟩, restoreBlock_outputs S s, rfl⟩
  rw [State.returns_dev, restoreBlock_dev]
  exact sameButSummary_summarise _

/-- Settles O21: the restored block is the saved one after the aggregator, which changes nothing where SUMMARY holds. -/
theorem snapshotRoundTrip : Obligations.SnapshotRoundTrip := by
  intro s e m hs hsummary htyped
  have restored : s.blk.summarise = s.blk := Block.summarise_of_ok hsummary
  refine ⟨s.returns (some (.snapshot s.blk)), _, _, _, _, s.blk, execSnapsave_of_attached hs, rfl,
    performs_of_attached hs detachBlock, rfl, execSnaprestore_of_typed rfl ((Block.typeOk_iff s.blk).mpr htyped),
    execSnapsave_of_attached rfl, ?_, ?_⟩
  · exact congrArg (fun b => some (Result.snapshot b)) restored
  · exact restored

end Sys2Proof.Machine
end

section
/-! The timer period the spec derives, the PIA level, and the open parameters (41_timer_engine.md R145, 60_exceptions.md
R230, 92_eei_decisions.md). -/

namespace Sys2Proof.Machine

/-- Settles O37: by whether there is an owner. -/
theorem updatePeriodFallsBack : Obligations.UpdatePeriodFallsBack := by
  refine fun b => ⟨fun h => ?_, fun d h => ?_⟩
  · unfold Block.updatePeriod
    rw [h]
    rfl
  · unfold Block.updatePeriod
    rw [h]

/-- Settles O55: the level is the OR of the summary bits, each of which is set exactly when a cause is enabled. -/
theorem piaLevelIsAnyEnabledCause : Obligations.PiaLevelIsAnyEnabledCause := fun s hs =>
  (piaIrqLevel_iff s.blk).trans (exists_congr hs)

/-- Two chips whose numbers are the same are the same chip, whichever numbering is in force (log entry 6). -/
theorem psgIndex_injective {d e : DevIx} {k l : ChipIx} (h : psgIndex d k = psgIndex e l) : d = e ∧ k = l := by
  unfold psgIndex at h
  split at h
  next hinj => exact of_decide_eq_true hinj d e k l h
  next => exact ⟨Fin.ext (by omega), Fin.ext (by omega)⟩

theorem phSelFirstBit_ne_second : phSelFirstBit ≠ phSelSecondBit := by
  have next : ∀ b : Fin 8, b ≠ b + 1 := by decide
  unfold phSelFirstBit phSelSecondBit
  split
  · exact next _
  next h => exact Ne.symm h

/-- Settles O56: each constraint is put on its open parameter by definition (log entry 6). -/
theorem openParametersMeetConstraints : Obligations.OpenParametersMeetConstraints :=
  ⟨fun _ _ _ _ => psgIndex_injective, phSelFirstBit_ne_second, rfl, rfl⟩

end Sys2Proof.Machine
end

section
/-! The writes of PIA registers that store, load a counter, arm or stop (40_pia_registers.md section 2). -/

namespace Sys2Proof.Machine

/-! ## Plain stores -/

/-- Settles O23: each of the three is a change of the low byte of a latch (R106, R108, R110). -/
theorem latchLowWritesStore : Obligations.LatchLowWritesStore := by
  intro s d v hs
  simp only [← withLow_eq]
  refine ⟨?t1cl, ?t1ll, ?t2l⟩
  case t1cl => exact exec_onlyDevice (f := fun x => { x with t1l := withLow x.t1l v }) hs rfl
  case t1ll => exact exec_onlyDevice (f := fun x => { x with t1l := withLow x.t1l v }) hs rfl
  case t2l => exact exec_onlyDevice (f := fun x => { x with t2l := withLow x.t2l v }) hs rfl

/-- Settles O24: both store the port value of the byte (R100, R103, R117). -/
theorem portAWritesStoreMasked : Obligations.PortAWritesStoreMasked := by
  intro s d v hs
  refine ⟨?ora, ?oran⟩
  case ora => exact exec_onlyDevice (f := fun x => { x with ora := portVal s.params v x.ddra }) hs rfl
  case oran => exact exec_onlyDevice (f := fun x => { x with ora := portVal s.params v x.ddra }) hs rfl

/-! ## Flags after further changes -/

/-- What flags became does not see a change that keeps every device. -/
theorem FlagsBecome.congr {s t u : State} {d : DevIx} {x : Device} {causes : Byte} (h : FlagsBecome s t d x causes)
    (hu : ∀ e, u.dev e = t.dev e) : FlagsBecome s u d x causes := by
  obtain ⟨hdev, hcauses, hothers, hsummary⟩ := h
  refine ⟨by rw [hu]; exact hdev, by rw [hu]; exact hcauses, fun e he => by rw [hu]; exact hothers e he, fun e => ?_⟩
  rw [hu]
  exact hsummary e

/-- A further change of the device that has nothing to do with its flags and enables. -/
theorem FlagsBecome.modDev {s t : State} {d : DevIx} {x : Device} {causes : Byte} (h : FlagsBecome s t d x causes)
    (g : Device → Device) (hifr : ∀ y v, g { y with ifr := v } = { g y with ifr := v }) (hg : ∀ y, (g y).ier = y.ier) :
    FlagsBecome s (t.modDev d g) d (g x) causes := by
  have keeps : ∀ y, (g y).ifr = y.ifr := fun y => by
    have h := congrArg Device.ifr (hifr y y.ifr)
    exact h
  obtain ⟨hdev, hcauses, hothers, hsummary⟩ := h
  refine ⟨?_, ?_, fun e he => ?_, summary_modDev hsummary d ⟨keeps _, hg _⟩⟩
  · rw [State.dev_modDev_self, keeps, ← hifr, ← hdev]
  · rw [State.dev_modDev_self, keeps]
    exact hcauses
  · rw [State.dev_modDev_of_ne _ _ _ _ he]
    exact hothers e he

theorem causes_without_t1 (a : Byte) : a &&& ~~~(bitMask t1Bit) &&& 0x7F#8 = a &&& 0x3F#8 := by revert a; decide

theorem causes_without_t2 (a : Byte) : a &&& ~~~(bitMask t2Bit) &&& 0x7F#8 = a &&& 0x5F#8 := by revert a; decide

/-! ## The timer registers -/

/-- The timer slot after arming: an even device whose timer 1 interrupt is enabled takes it with its latch as period
(41_timer_engine.md R140). -/
theorem arm_slot (d : DevIx) (s : State) :
    if d.val % 2 = 0 ∧ (s.dev d).ier.getLsbD 6 = true then
      (arm d s).blk.timerOwner = some d ∧ (arm d s).blk.timerPeriod = (s.dev d).t1l
    else TimerKept s (arm d s) := by
  have hc : (isA d && (s.dev d).ier.getLsbD t1Bit) = true ↔ d.val % 2 = 0 ∧ (s.dev d).ier.getLsbD 6 = true := by
    simp [isA, t1Bit]
  split
  next h => exact ⟨(arm_timerOwner d s).trans (if_pos (hc.mpr h)), (arm_timerPeriod d s).trans (if_pos (hc.mpr h))⟩
  next h =>
    exact ⟨(arm_timerOwner d s).trans (if_neg (mt hc.mp h)), (arm_timerPeriod d s).trans (if_neg (mt hc.mp h))⟩

theorem arm_model (d : DevIx) (s : State) : ModelKept s (arm d s) :=
  ⟨arm_attached d s, arm_params d s, arm_freeCount d s, arm_input d s⟩

theorem arm_phoneme (d : DevIx) (s : State) : PhonemeKept s (arm d s) :=
  ⟨arm_activePhoneme d s, arm_speechOwner d s, arm_viaVotrax d s⟩

theorem arm_phasor (d : DevIx) (s : State) : PhasorKept s (arm d s) := ⟨arm_phasorEnable d s, arm_phasorMode d s⟩

theorem arm_outputs (d : DevIx) (s : State) : (arm d s).outputs = s.outputs := by
  unfold State.outputs
  rw [arm_trace]

/-- Settles O27: a store and a flag clear (R107), and then arming (41_timer_engine.md R140). -/
theorem timerOneCounterHighWriteLoadsAndArms : Obligations.TimerOneCounterHighWriteLoadsAndArms := by
  intro s d v hs w hw
  rw [← withHigh_eq] at hw
  subst hw
  have cleared := FlagsBecome.modDev_clearFlags s d
    (fun x => { x with t1l := withHigh x.t1l v, t1c := withHigh x.t1l v }) (bitMask t1Bit) (fun _ => rfl)
  rw [causes_without_t1] at cleared
  have slot := arm_slot d (clearFlags d (bitMask t1Bit)
    (s.modDev d fun x => { x with t1l := withHigh x.t1l v, t1c := withHigh x.t1l v }))
  rw [cleared.1] at slot
  exact ⟨_, exec_of_performs (f := writeT1ch d v) hs rfl, cleared.congr (arm_dev d · _), slot, arm_phasor d _,
    arm_speechLine d _, arm_phoneme d _, arm_model d _, (arm_outputs d _).trans (clearFlags_outputs d _ _), rfl⟩

/-- Settles O28: a store and a flag clear (R109). -/
theorem timerOneLatchHighWriteOnlyClearsFlag : Obligations.TimerOneLatchHighWriteOnlyClearsFlag := by
  intro s d v hs
  have cleared := FlagsBecome.modDev_clearFlags s d (fun x => { x with t1l := withHigh x.t1l v }) (bitMask t1Bit)
    (fun _ => rfl)
  rw [causes_without_t1, withHigh_eq] at cleared
  exact ⟨_, exec_of_performs (f := writeT1lh d v) hs rfl, cleared.returns none,
    ⟨⟨rfl, rfl⟩, ⟨rfl, rfl⟩, rfl, rfl, rfl, rfl⟩, ⟨rfl, rfl, rfl, rfl⟩, clearFlags_outputs d _ _, rfl⟩

/-- Settles O29: a store and a flag clear, and then the start of timer 2 (R111). -/
theorem timerTwoHighWriteLoadsAndStarts : Obligations.TimerTwoHighWriteLoadsAndStarts := by
  intro s d v hs w hw
  rw [← withHigh_eq] at hw
  subst hw
  have cleared := FlagsBecome.modDev_clearFlags s d
    (fun x => { x with t2l := withHigh x.t2l v, t2c := withHigh x.t2l v }) (bitMask t2Bit) (fun _ => rfl)
  rw [causes_without_t2] at cleared
  exact ⟨_, exec_of_performs (f := writeT2h d v) hs rfl,
    (cleared.modDev (fun x => { x with t2Armed := true }) (fun _ _ => rfl) (fun _ => rfl)).returns none,
    ⟨⟨rfl, rfl⟩, ⟨rfl, rfl⟩, rfl, rfl, rfl, rfl⟩, ⟨rfl, rfl, rfl, rfl⟩, clearFlags_outputs d _ _, rfl⟩

/-! ## IER -/

theorem changeEnables_flags (d : DevIx) (v : Byte) (s : State) :
    FlagsBecome s (changeEnables d v s) d { s.dev d with ier := enablesAfter v (s.dev d).ier }
      ((s.dev d).ifr &&& 0x7F#8) :=
  recompute_modDev_flags s d fun x => { x with ier := enablesAfter v x.ier }

theorem changeEnables_ier (d : DevIx) (v : Byte) (s : State) :
    ((changeEnables d v s).dev d).ier = enablesAfter v (s.dev d).ier := by
  rw [(changeEnables_flags d v s).1]

theorem changeEnables_outputs (d : DevIx) (v : Byte) (s : State) : (changeEnables d v s).outputs = s.outputs :=
  recompute_outputs _

/-- The timer 1 enable after a write of IER that adds its mask (30_encoding.md R67). -/
theorem enablesAfter_set {v : Byte} (hv : v.getLsbD 7 = true) (ier : Byte) :
    (enablesAfter v ier).getLsbD 6 = true ↔ ier.getLsbD 6 = true ∨ v.getLsbD 6 = true := by
  have hm : causeMask.getLsbD 6 = true := by decide
  rw [enablesAfter, if_pos hv, BitVec.getLsbD_or, BitVec.getLsbD_and, hm, Bool.and_true, Bool.or_eq_true]

/-- The enables after a write of IER that removes its mask. -/
theorem enablesAfter_clear {v : Byte} (hv : v.getLsbD 7 = false) (ier : Byte) :
    enablesAfter v ier = ier &&& ~~~v &&& 0x7F#8 := by
  rw [enablesAfter, if_neg (by rw [hv]; decide)]
  exact and_not_causes ier v

theorem enablesAfter_clear_t1 {v : Byte} (hv : v.getLsbD 7 = false) (ier : Byte) :
    (enablesAfter v ier).getLsbD 6 = false ↔ ier.getLsbD 6 = false ∨ v.getLsbD 6 = true := by
  rw [enablesAfter_clear hv, BitVec.getLsbD_and, BitVec.getLsbD_and, BitVec.getLsbD_not]
  generalize ier.getLsbD 6 = held
  generalize v.getLsbD 6 = removed
  revert held removed
  decide

/-- The timer slot after a write of IER that removes its mask: a device left without its timer 1 enable gives it up
(41_timer_engine.md R141). -/
theorem writeIer_clear_timerOwner {v : Byte} (hv : v.getLsbD 7 = false) (d : DevIx) (s : State) :
    (writeIer d v s).blk.timerOwner =
      if s.blk.timerOwner = some d ∧ ((s.dev d).ier.getLsbD 6 = false ∨ v.getLsbD 6 = true) then none
      else s.blk.timerOwner := by
  have kept : (changeEnables d v s).blk.timerOwner = s.blk.timerOwner := rfl
  have henable := enablesAfter_clear_t1 hv (s.dev d).ier
  simp only [writeIer_of_clear hv, changeEnables_ier, ← henable, t1Bit]
  cases h6 : (enablesAfter v (s.dev d).ier).getLsbD 6 with
  | true =>
    rw [if_pos rfl, if_neg (by simp), kept]
  | false =>
    rw [if_neg (by decide), stop_timerOwner, kept]
    simp only [and_true]

/-- Settles O31: a change of the enables and then arming, or giving up the slot (R116; 41_timer_engine.md R140, R141). -/
theorem enableWriteAddsOrRemovesMask : Obligations.EnableWriteAddsOrRemovesMask := by
  intro s d v hs
  have flags := changeEnables_flags d v s
  have completes := exec_of_performs (i := .wIer d v) (f := writeIer d v) hs rfl
  refine ⟨fun hv => ?_, fun hv => ?_⟩
  · have slot := arm_slot d (changeEnables d v s)
    simp only [changeEnables_ier, enablesAfter_set hv] at slot
    rw [flags.1] at slot
    rw [writeIer_of_set hv] at completes
    rw [enablesAfter, if_pos hv] at flags
    exact ⟨_, completes, flags.congr (arm_dev d · _), slot, arm_phasor d _, arm_speechLine d _, arm_phoneme d _,
      arm_model d _, (arm_outputs d _).trans (changeEnables_outputs d v s), rfl⟩
  · have owner := writeIer_clear_timerOwner hv d s
    rw [enablesAfter_clear hv] at flags
    have stopped : ∀ u, (u = changeEnables d v s ∨ u = stop d (changeEnables d v s)) →
        (∀ e, u.dev e = (changeEnables d v s).dev e) ∧ u.blk.timerPeriod = s.blk.timerPeriod ∧ PhasorKept s u ∧
          u.blk.speechLine = s.blk.speechLine ∧ PhonemeKept s u ∧ ModelKept s u ∧ u.outputs = s.outputs := by
      rintro u (rfl | rfl)
      · exact ⟨fun _ => rfl, rfl, ⟨rfl, rfl⟩, rfl, ⟨rfl, rfl, rfl⟩, ⟨rfl, rfl, rfl, rfl⟩, changeEnables_outputs d v s⟩
      · exact ⟨(stop_dev d · _), stop_timerPeriod d _, ⟨stop_phasorEnable d _, stop_phasorMode d _⟩,
          stop_speechLine d _, ⟨stop_activePhoneme d _, stop_speechOwner d _, stop_viaVotrax d _⟩,
          ⟨stop_attached d _, stop_params d _, stop_freeCount d _, stop_input d _⟩,
          (congrArg (List.filter Event.normative) (stop_trace d _)).trans (changeEnables_outputs d v s)⟩
    have outcome : writeIer d v s = changeEnables d v s ∨ writeIer d v s = stop d (changeEnables d v s) := by
      rw [writeIer_of_clear hv]
      split
      · exact .inl rfl
      · exact .inr rfl
    obtain ⟨hdev, hperiod, hphasor, hline, hphoneme, hmodel, houtputs⟩ := stopped _ outcome
    exact ⟨_, completes, (flags.congr hdev).returns none, owner, hperiod, hphasor, hline, hphoneme, hmodel, houtputs, rfl⟩

end Sys2Proof.Machine
end

section
/-! The reads of PIA registers (40_pia_registers.md section 3). -/

namespace Sys2Proof.Machine

/-- Settles O32: eleven reads that answer a stored byte, or a byte of a counter or latch, and change nothing. -/
theorem plainReadsReturnTheRegister : Obligations.PlainReadsReturnTheRegister := by
  intro s d hs
  exact ⟨.of_pure hs (readOrb d) rfl rfl rfl, .of_pure hs (readDdrb d) rfl rfl rfl, .of_pure hs (readDdra d) rfl rfl rfl,
    .of_pure hs (readT1ch d) rfl rfl (highByte_eq _), .of_pure hs (readT1ll d) rfl rfl (lowByte_eq _),
    .of_pure hs (readT1lh d) rfl rfl (highByte_eq _), .of_pure hs (readT2h d) rfl rfl (highByte_eq _),
    .of_pure hs (readAcr d) rfl rfl rfl, .of_pure hs (readPcr d) rfl rfl rfl, .of_pure hs (readIfr d) rfl rfl rfl,
    .of_pure hs (readIer d) rfl rfl rfl⟩

/-- Settles O33: port A as stored, and 0 for the serial register (R121, R130, R135). -/
theorem portAAndSerialReads : Obligations.PortAAndSerialReads := fun _ d hs =>
  ⟨.of_pure hs (readOra d) rfl rfl rfl, .of_pure hs (readOran d) rfl rfl rfl, .of_pure hs (readSr d) rfl rfl rfl⟩

/-- A read that clears flags completes with the flags cleared and its byte answered. -/
theorem exec_acknowledges {i : Instr} {s : State} {d : DevIx} {m b : Byte} (hs : s.attached = true)
    (hx : exec i s = answers (fun s => (clearFlags d m s, b)) s) :
    ∃ t, exec i s = .next t ∧ FlagsBecome s t d (s.dev d) ((s.dev d).ifr &&& ~~~m &&& 0x7F#8) ∧ GlobalsKept s t ∧
      ModelKept s t ∧ t.outputs = s.outputs ∧ t.result = some (.byte b) :=
  ⟨_, hx.trans (answers_of_attached hs _), (clearFlags_flags d m s).returns _, clearFlags_globals d m s,
    clearFlags_model d m s, clearFlags_outputs d m s, rfl⟩

/-- Settles O34: each answers the low byte of its counter and clears its flag (R124, R128). -/
theorem counterLowReadsAcknowledge : Obligations.CounterLowReadsAcknowledge := by
  intro s d hs
  have t1 := exec_acknowledges (i := .rT1cl d) (d := d) (m := bitMask t1Bit) (b := lowByte (s.dev d).t1c) hs rfl
  have t2 := exec_acknowledges (i := .rT2l d) (d := d) (m := bitMask t2Bit) (b := lowByte (s.dev d).t2c) hs rfl
  rw [causes_without_t1, lowByte_eq] at t1
  rw [causes_without_t2, lowByte_eq] at t2
  exact ⟨t1, t2⟩

end Sys2Proof.Machine
end

section
/-! The tick (41_timer_engine.md section 2). -/

namespace Sys2Proof.Machine

theorem tickBy_timerPeriod (n : Half) (s : State) :
    (tickBy n s).blk.timerPeriod = (tickAll n s).1.blk.timerPeriod := by
  unfold tickBy; split <;> rfl

/-- A free-running owner that fires is armed again with its latch as period (41_timer_engine.md R143). -/
theorem tickAll_timerPeriod_rearmed {n : Half} {s : State} {d : DevIx} (hu : under1 s n d = true)
    (hrun : (s.dev d).acr.getLsbD 6 = true) (heven : d.val % 2 = 0) (henable : (s.dev d).ier.getLsbD 6 = true) :
    (tickAll n s).1.blk.timerPeriod = (s.dev d).t1l := by
  obtain ⟨-, -, -, -, -, h, -⟩ := tickDevices_spec n [0, 1, 2, 3] s false (by decide)
  exact h d (mem_allDevices d) hu hrun (by simpa [isA] using heven) henable

theorem tickAll_timerPeriod_kept {n : Half} {s : State}
    (hno : ¬∃ d, under1 s n d = true ∧ (s.dev d).acr.getLsbD 6 = true ∧ d.val % 2 = 0 ∧
      (s.dev d).ier.getLsbD 6 = true) :
    (tickAll n s).1.blk.timerPeriod = s.blk.timerPeriod := by
  obtain ⟨-, -, -, -, -, -, h, -⟩ := tickDevices_spec n [0, 1, 2, 3] s false (by decide)
  refine h fun ⟨d, _, hu, hrun, heven, henable⟩ => hno ⟨d, hu, hrun, by simpa [isA] using heven, henable⟩

/-- What a tick leaves unchanged, the aggregator's event aside. -/
theorem tickBy_frame (n : Half) (s : State) :
    PhasorKept s (tickBy n s) ∧ (tickBy n s).blk.speechLine = s.blk.speechLine ∧ PhonemeKept s (tickBy n s) ∧
      ModelKept s (tickBy n s) ∧ (tickBy n s).outputs = s.outputs := by
  obtain ⟨hphasor, hline, hphoneme, hmodel, htrace, -⟩ := tickAll_frame n s
  have houtputs : (tickAll n s).1.outputs = s.outputs := congrArg (List.filter Event.normative) htrace
  cases hf : (tickAll n s).2 with
  | true =>
    rw [tickBy_of_fired hf]
    exact ⟨hphasor, hline, hphoneme, hmodel, (recompute_outputs _).trans houtputs⟩
  | false =>
    rw [tickBy_of_quiet hf]
    exact ⟨hphasor, hline, hphoneme, hmodel, houtputs⟩

/-- A tick recomputes the summaries where some flag was set, and else keeps every IFR (41_timer_engine.md R142). -/
theorem tickBy_flags (n : Half) (s : State) :
    if ∃ d, under1 s n d = true ∨ under2 s n d = true then (tickBy n s).Summary
    else ∀ d, ((tickBy n s).dev d).ifr = (s.dev d).ifr := by
  split
  next h =>
    rw [tickBy_of_fired ((tickAll_fired n s).mpr h)]
    exact recompute_summary _
  next h =>
    intro d
    rw [tickBy_of_quiet (Bool.eq_false_iff.mpr (mt (tickAll_fired n s).mp h)), tickAll_dev]
    obtain ⟨h1, h2⟩ := not_or.mp fun hd => h ⟨d, hd⟩
    exact (ticked_flags (Bool.eq_false_iff.mpr h1) (Bool.eq_false_iff.mpr h2)).1

/-- Settles O35: the devices after a tick are `ticked` up to the summary bit, and the slot is as the owner left it. -/
theorem tickCountsAndFires : Obligations.TickCountsAndFires := by
  intro s n hs hn under₁ under₂ h₁ h₂
  have hcount : (BitVec.ofNat 16 n).toNat = n := by
    rw [BitVec.toNat_ofNat]
    exact Nat.mod_eq_of_lt (Nat.lt_succ_of_le hn)
  obtain rfl : under₁ = under1 s (BitVec.ofNat 16 n) := funext fun d => by rw [h₁, under1, hcount]
  obtain rfl : under₂ = under2 s (BitVec.ofNat 16 n) := funext fun d => by rw [h₂, under2, hcount]
  obtain ⟨hphasor, hline, hphoneme, hmodel, houtputs⟩ := tickBy_frame (BitVec.ofNat 16 n) s
  have hdev := tickBy_dev (BitVec.ofNat 16 n) s
  simp only [ticked, Bool.and_eq_true] at hdev
  exact ⟨_, execTick_of_le hs hn, hdev, tickBy_flags _ s, (tickBy_timerOwner _ s).trans (tickAll_timerOwner _ s),
    fun d hu hrun heven henable => (tickBy_timerPeriod _ s).trans (tickAll_timerPeriod_rearmed hu hrun heven henable),
    fun hno => (tickBy_timerPeriod _ s).trans (tickAll_timerPeriod_kept hno), hphasor, hline, hphoneme, hmodel,
    houtputs, rfl⟩

end Sys2Proof.Machine
end

section
/-! The speech registers and the completion of a phoneme (43_speech.md). -/

namespace Sys2Proof.Machine

/-! ## Plain writes, the write of control, the reads -/

/-- Settles O38: three stores (43_speech.md R181, R182, R184). -/
theorem plainSpeechWritesStore : Obligations.PlainSpeechWritesStore := by
  intro s d v hs
  refine ⟨?inflect, ?rateInf, ?filt⟩
  case inflect => exact exec_onlyDevice (f := fun x => { x with spInflect := v }) hs rfl
  case rateInf => exact exec_onlyDevice (f := fun x => { x with spRateInf := v }) hs rfl
  case filt => exact exec_onlyDevice (f := fun x => { x with spFilt := v }) hs rfl

/-- Settles O39: the write of control is a change of two bytes of its device (43_speech.md R183, R186). -/
theorem controlWriteRelatchesOnFallingEdge : Obligations.ControlWriteRelatchesOnFallingEdge := by
  intro s d v hs
  have completes := exec_of_performs (i := .swCtrl d v) (f := writeCtrl d v) hs rfl
  rw [writeCtrl_eq] at completes
  exact ⟨_, completes, OnlyDevice.modDev s d _ none⟩

/-- Settles O41: every speech read answers the pin byte (43_speech.md R185). -/
theorem speechReadsReturnThePin : Obligations.SpeechReadsReturnThePin := by
  intro s d hs b hb
  have pin : ∀ r, (spRead d r s).2 = b := fun _ => (pinByte_eq _).trans hb.symm
  exact ⟨.of_pure hs (spRead d 0) rfl rfl (pin 0), .of_pure hs (spRead d 1) rfl rfl (pin 1),
    .of_pure hs (spRead d 2) rfl rfl (pin 2), .of_pure hs (spRead d 3) rfl rfl (pin 3),
    .of_pure hs (spRead d 4) rfl rfl (pin 4)⟩

/-! ## The write of duration/phoneme -/

/-- A device after a write of `v` to duration/phoneme, its flags aside: the byte stored and the pin cleared. -/
def Device.withPhoneme (v : Byte) (x : Device) : Device := { x with spDurPhon := v, spCur := x.spCur &&& 0xFE#8 }

/-- With Phasor disabled the flag is cleared and the phoneme played, whatever its code (43_speech.md R180). -/
theorem writeDurPhon_disabled {s : State} (h : s.blk.phasorEnable = false) (d : DevIx) (v : Byte) :
    writeDurPhon d v s =
      play d (phonemeOf v) false ((clearFlags d (periphMask s.params) s).modDev d (Device.withPhoneme v)) := by
  have hs : suppressed (phonemeOf v)
      ((clearFlags d (periphMask s.params) s).modDev d (Device.withPhoneme v)) = false := by
    rw [suppressed_eq, State.modDev_phasorEnable, clearFlags_phasorEnable, h]
    rfl
  unfold writeDurPhon
  rw [clearSpeechCondition_disabled h, State.modDev_modDev]
  exact if_neg (by rw [Bool.not_eq_true]; exact hs)

/-- With Phasor enabled the line is deasserted and the phoneme played unless it is suppressed (43_speech.md R180). -/
theorem writeDurPhon_enabled {s : State} (h : s.blk.phasorEnable = true) (d : DevIx) (v : Byte) :
    writeDurPhon d v s =
      if v &&& 0x3F#8 = 0#8 ∧ (s.blk.activePhoneme.isSome || s.params.phasorZeroSuppressAlways) = true then
        (setSpeechLine false s).modDev d (Device.withPhoneme v)
      else play d (phonemeOf v) false ((setSpeechLine false s).modDev d (Device.withPhoneme v)) := by
  have hs : suppressed (phonemeOf v) ((setSpeechLine false s).modDev d (Device.withPhoneme v)) = true ↔
      v &&& 0x3F#8 = 0#8 ∧ (s.blk.activePhoneme.isSome || s.params.phasorZeroSuppressAlways) = true := by
    rw [suppressed_eq, State.modDev_phasorEnable, setSpeechLine_phasorEnable, h, Bool.true_and, Bool.and_eq_true,
      decide_eq_true_eq]
    rfl
  unfold writeDurPhon
  rw [clearSpeechCondition_enabled h, State.modDev_modDev]
  exact if_congr hs rfl rfl

/-- Settles O42: a flag clear, the two bytes, and the dispatch. -/
theorem phonemeWriteWithPhasorDisabled : Obligations.PhonemeWriteWithPhasorDisabled := by
  intro s d v hs he
  have completes := exec_of_performs (i := .swDurphon d v) (f := writeDurPhon d v) hs rfl
  rw [writeDurPhon_disabled he] at completes
  have flags := (clearFlags_flags d (periphMask s.params) s).modDev (Device.withPhoneme v) (fun _ _ => rfl) fun _ => rfl
  rw [and_not_and_causes] at flags
  refine ⟨_, completes, flags.congr fun _ => rfl, ⟨?_, rfl, rfl, rfl⟩, ⟨rfl, rfl⟩, ⟨rfl, rfl⟩, rfl,
    ⟨rfl, rfl, rfl, rfl⟩, rfl⟩
  rw [State.outputs_returns, play_outputs, State.outputs_modDev, clearFlags_outputs]
  rfl

/-- Settles O43: the line and the two bytes, and the dispatch unless the phoneme is suppressed. -/
theorem phonemeWriteWithPhasorEnabled : Obligations.PhonemeWriteWithPhasorEnabled := by
  intro s d v hs he
  have completes := exec_of_performs (i := .swDurphon d v) (f := writeDurPhon d v) hs rfl
  rw [writeDurPhon_enabled he] at completes
  have houtputs : ((setSpeechLine false s).modDev d (Device.withPhoneme v)).outputs = s.outputs := by
    rw [State.outputs_modDev, setSpeechLine_outputs]
  have hdev : ((setSpeechLine false s).modDev d (Device.withPhoneme v)).dev d = Device.withPhoneme v (s.dev d) :=
    State.dev_modDev_self _ _ _
  have hothers : OthersKept s ((setSpeechLine false s).modDev d (Device.withPhoneme v)) d :=
    fun e he => State.dev_modDev_of_ne _ _ _ _ he
  split at completes
  next h =>
    refine ⟨_, completes, hdev, hothers, ?_, rfl, ⟨rfl, rfl⟩, ⟨rfl, rfl⟩, ⟨rfl, rfl, rfl, rfl⟩, rfl⟩
    rw [if_pos h]
    exact ⟨houtputs, rfl, rfl, rfl⟩
  next h =>
    refine ⟨_, completes, hdev, hothers, ?_, rfl, ⟨rfl, rfl⟩, ⟨rfl, rfl⟩, ⟨rfl, rfl, rfl, rfl⟩, rfl⟩
    rw [if_neg h]
    refine ⟨?_, rfl, rfl, rfl⟩
    rw [State.outputs_returns, play_outputs, houtputs]
    rfl

/-! ## DONE -/

/-- Settles O44: with no active phoneme the meaning of DONE is the identity (43_speech.md R191). -/
theorem doneWithNothingPlaying : Obligations.DoneWithNothingPlaying := by
  intro s hs hp
  have completes := exec_of_performs (i := .done) (f := phonemeDone) hs rfl
  rw [phonemeDone_idle hp] at completes
  exact ⟨_, completes, NothingBut.returns s none⟩

/-- What every completion does, whatever it raises: the slot is empty and the route bit clear, and one free value is used
where no device owned the phoneme (log entry 12). -/
structure Completed (s t : State) : Prop where
  activePhoneme : t.blk.activePhoneme = none
  speechOwner : t.blk.speechOwner = s.blk.speechOwner
  viaVotrax : t.blk.viaVotrax = false
  timer : TimerKept s t
  phasor : PhasorKept s t
  attached : t.attached = s.attached
  params : t.params = s.params
  input : t.input = s.input
  freeCount : t.freeCount = s.freeCount + if s.blk.speechOwner = none then 1 else 0
  outputs : t.outputs = s.outputs

theorem Completed.setFlags {s t : State} (h : Completed s t) (d : DevIx) (m : Byte) : Completed s (setFlags d m t) :=
  ⟨h.activePhoneme, h.speechOwner, h.viaVotrax, h.timer, h.phasor, h.attached, h.params, h.input, h.freeCount,
    (setFlags_outputs d m t).trans h.outputs⟩

theorem Completed.setSpeechLine {s t : State} (h : Completed s t) (l : Bool) : Completed s (setSpeechLine l t) :=
  ⟨h.activePhoneme, h.speechOwner, h.viaVotrax, h.timer, h.phasor, h.attached, h.params, h.input, h.freeCount,
    (setSpeechLine_outputs l t).trans h.outputs⟩

theorem Completed.modDev {s t : State} (h : Completed s t) (d : DevIx) (f : Device → Device) :
    Completed s (t.modDev d f) :=
  ⟨h.activePhoneme, h.speechOwner, h.viaVotrax, h.timer, h.phasor, h.attached, h.params, h.input, h.freeCount,
    h.outputs⟩

/-- The slot emptied, with the route bit clear. -/
def emptiedNative (s : State) : State :=
  { (emptiedSlot s).2 with blk := { (emptiedSlot s).2.blk with viaVotrax := false } }

theorem emptiedNative_completed (s : State) : Completed s (emptiedNative s) := by
  unfold emptiedNative emptiedSlot
  cases ho : s.blk.speechOwner with
  | none =>
    rw [completionDevice_of_none (by exact ho)]
    exact ⟨rfl, rfl, rfl, ⟨rfl, rfl⟩, ⟨rfl, rfl⟩, rfl, rfl, rfl, by rw [ho]; rfl, rfl⟩
  | some d =>
    rw [completionDevice_of_owner (by exact ho)]
    exact ⟨rfl, rfl, rfl, ⟨rfl, rfl⟩, ⟨rfl, rfl⟩, rfl, rfl, rfl, by rw [ho]; rfl, rfl⟩

theorem emptiedNative_dev (s : State) (d : DevIx) : (emptiedNative s).dev d = s.dev d := (emptiedSlot_spec s).1.dev d

theorem emptiedNative_speechLine (s : State) : (emptiedNative s).blk.speechLine = s.blk.speechLine :=
  (emptiedSlot_spec s).1.speechLine

/-- The completion goes to the owner where there is one (43_speech.md R191). -/
theorem emptiedSlot_owner {s : State} {e : DevIx} (h : s.blk.speechOwner = some e) : (emptiedSlot s).1 = e := by
  unfold emptiedSlot
  rw [completionDevice_of_owner (by exact h)]

/-- A phoneme of another route than the translator's leaves the route bit as it is, clear. -/
theorem emptiedSlot_of_native {s : State} (h : s.blk.viaVotrax = false) : (emptiedSlot s).2 = emptiedNative s := by
  have hv := (emptiedSlot_spec s).2.trans h
  show _ = ({ (emptiedSlot s).2 with blk := { (emptiedSlot s).2.blk with viaVotrax := false } } : State)
  rw [← hv]

theorem phonemeDone_of_votrax {s : State} {p : Phoneme} (hp : s.blk.activePhoneme = some p)
    (hv : s.blk.viaVotrax = true) :
    phonemeDone s = setFlags (emptiedSlot s).1 (periphMask s.params) (emptiedNative s) := by
  rw [phonemeDone_of_active hp, if_pos hv]
  show setFlags _ (periphMask (emptiedSlot s).2.params) (emptiedNative s) = _
  rw [(emptiedSlot_spec s).1.params]

theorem phonemeDone_of_native {s : State} {p : Phoneme} (hp : s.blk.activePhoneme = some p)
    (hv : s.blk.viaVotrax = false) : phonemeDone s = completeNative (emptiedSlot s).1 (emptiedNative s) := by
  rw [phonemeDone_of_active hp, if_neg (by rw [hv]; decide), emptiedSlot_of_native hv]

/-- What flags became, from a state with the same devices. -/
theorem FlagsBecome.from_same {s s' t : State} {d : DevIx} {x : Device} {causes : Byte}
    (h : FlagsBecome s' t d x causes) (hs : ∀ e, s'.dev e = s.dev e) : FlagsBecome s t d x causes := by
  obtain ⟨hdev, hcauses, hothers, hsummary⟩ := h
  exact ⟨hdev, hcauses, fun e he => hs e ▸ hothers e he, hsummary⟩

/-- The pin set: the phoneme is done and the device asks for the next (43_speech.md R191). -/
def Device.withPin (x : Device) : Device := { x with spCur := x.spCur ||| 0x01#8 }

/-- What a completion raises in device `d`, by the route, the latched mode and the Phasor configuration. -/
structure Raised (s t : State) (d : DevIx) : Prop where
  votrax : s.blk.viaVotrax = true →
    FlagsBecome s t d (s.dev d) (((s.dev d).ifr ||| periphMask s.params) &&& 0x7F#8) ∧
      t.blk.speechLine = s.blk.speechLine
  silent : s.blk.viaVotrax = false → (s.dev d).spCur &&& 0xC0#8 = 0#8 →
    (∀ e, t.dev e = s.dev e) ∧ t.blk.speechLine = s.blk.speechLine
  phasor : s.blk.viaVotrax = false → (s.dev d).spCur &&& 0xC0#8 ≠ 0#8 → s.blk.phasorEnable = true →
    t.dev d = (s.dev d).withPin ∧ OthersKept s t d ∧ t.blk.speechLine = true
  classic : s.blk.viaVotrax = false → (s.dev d).spCur &&& 0xC0#8 ≠ 0#8 → s.blk.phasorEnable = false →
    FlagsBecome s t d (s.dev d).withPin (((s.dev d).ifr ||| periphMask s.params) &&& 0x7F#8) ∧
      t.blk.speechLine = s.blk.speechLine

theorem raised_of_votrax {s : State} (hv : s.blk.viaVotrax = true) (d : DevIx) :
    Raised s (setFlags d (periphMask s.params) (emptiedNative s)) d := by
  have flags := (setFlags_flags d (periphMask s.params) (emptiedNative s)).from_same (emptiedNative_dev s)
  rw [emptiedNative_dev] at flags
  exact ⟨fun _ => ⟨flags, emptiedNative_speechLine s⟩, fun h => (nomatch hv.symm.trans h),
    fun h => (nomatch hv.symm.trans h), fun h => (nomatch hv.symm.trans h)⟩

theorem raised_of_silent {s : State} {d : DevIx} (hv : s.blk.viaVotrax = false)
    (hm : (s.dev d).spCur &&& 0xC0#8 = 0#8) : Raised s (emptiedNative s) d :=
  ⟨fun h => (nomatch hv.symm.trans h), fun _ _ => ⟨emptiedNative_dev s, emptiedNative_speechLine s⟩,
    fun _ h => absurd hm h, fun _ h => absurd hm h⟩

theorem raised_of_phasor {s : State} {d : DevIx} (hv : s.blk.viaVotrax = false)
    (hm : (s.dev d).spCur &&& 0xC0#8 ≠ 0#8) (he : s.blk.phasorEnable = true) :
    Raised s (setSpeechLine true ((emptiedNative s).modDev d Device.withPin)) d := by
  refine ⟨fun h => (nomatch hv.symm.trans h), fun _ h => absurd h hm, fun _ _ _ => ⟨?_, fun e hd => ?_, rfl⟩,
    fun _ _ h => (nomatch he.symm.trans h)⟩
  · exact (State.dev_modDev_self _ _ _).trans (congrArg _ (emptiedNative_dev s d))
  · exact (State.dev_modDev_of_ne _ _ _ _ hd).trans (emptiedNative_dev s e)

theorem raised_of_classic {s : State} {d : DevIx} (hv : s.blk.viaVotrax = false)
    (hm : (s.dev d).spCur &&& 0xC0#8 ≠ 0#8) (he : s.blk.phasorEnable = false) :
    Raised s (setFlags d (periphMask s.params) ((emptiedNative s).modDev d Device.withPin)) d := by
  have flags : FlagsBecome s (setFlags d (periphMask s.params) ((emptiedNative s).modDev d Device.withPin)) d
      (s.dev d).withPin (((s.dev d).ifr ||| periphMask s.params) &&& 0x7F#8) := by
    obtain ⟨hdev, hcauses, hothers, hsummary⟩ :=
      setFlags_flags d (periphMask s.params) ((emptiedNative s).modDev d Device.withPin)
    rw [State.dev_modDev_self, emptiedNative_dev] at hdev hcauses
    refine ⟨hdev, hcauses, fun e hd => ?_, hsummary⟩
    have h := hothers e hd
    rwa [State.dev_modDev_of_ne _ _ _ _ hd, emptiedNative_dev] at h
  exact ⟨fun h => (nomatch hv.symm.trans h), fun _ h => absurd h hm, fun _ _ h => (nomatch he.symm.trans h),
    fun _ _ _ => ⟨flags, emptiedNative_speechLine s⟩⟩

/-- The completion of a phoneme by its cases: the slot is emptied in each, and what is raised is the case's own. -/
theorem phonemeDone_effect {s : State} {p : Phoneme} (hp : s.blk.activePhoneme = some p) :
    Completed s (phonemeDone s) ∧ Raised s (phonemeDone s) (emptiedSlot s).1 := by
  have base := emptiedNative_completed s
  cases hv : s.blk.viaVotrax with
  | true =>
    rw [phonemeDone_of_votrax hp hv]
    exact ⟨base.setFlags _ _, raised_of_votrax hv _⟩
  | false =>
    rw [phonemeDone_of_native hp hv]
    by_cases hm : (s.dev (emptiedSlot s).1).spCur &&& 0xC0#8 = 0#8
    · rw [completeNative_disabled_mode (by rwa [emptiedNative_dev])]
      exact ⟨base, raised_of_silent hv hm⟩
    · have hm' : ((emptiedNative s).dev (emptiedSlot s).1).spCur &&& 0xC0#8 ≠ 0#8 := by rwa [emptiedNative_dev]
      cases he : s.blk.phasorEnable with
      | true =>
        rw [completeNative_phasor hm' (base.phasor.1.trans he)]
        exact ⟨(base.modDev _ _).setSpeechLine true, raised_of_phasor hv hm he⟩
      | false =>
        rw [completeNative_classic hm' (base.phasor.1.trans he), base.params]
        exact ⟨(base.modDev _ _).setFlags _ _, raised_of_classic hv hm he⟩

/-- Settles O45: the completion goes to the owner, where there is one. -/
theorem doneCompletesThePhoneme : Obligations.DoneCompletesThePhoneme := by
  intro s p hs hp
  have completes := exec_of_performs (i := .done) (f := phonemeDone) hs rfl
  obtain ⟨c, raised⟩ := phonemeDone_effect hp
  obtain ⟨votrax, silent, phasor, classic⟩ := raised
  exact ⟨(emptiedSlot s).1, _, fun e he => emptiedSlot_owner he, completes, c.activePhoneme, c.speechOwner, c.viaVotrax,
    votrax, silent, phasor, classic, c.timer, c.phasor, c.attached, c.params, c.input, c.freeCount, c.outputs, rfl⟩

end Sys2Proof.Machine
end

section
/-! The write of port B and the functions of the sound-generator decoder (42_psg_decoder.md). -/

namespace Sys2Proof.Machine

/-- A device with `v` stored into port B. -/
def Device.withOrb (v : Byte) (x : Device) : Device := { x with orb := v }

/-! ## Speech-data mode (R160) -/

/-- In speech-data mode every line of port B is an output, so that the masked byte is the byte (40_pia_registers.md R100). -/
theorem portVal_all_outputs (p : Params) (v : Byte) : portVal p v 0xFF#8 = v := by
  have all : v &&& 0xFF#8 = v := BitVec.and_allOnes
  simp [portVal, all]

theorem writeOrb_of_speechData {s : State} {d : DevIx} (h : (s.dev d).speechDataMode = true) (v : Byte) :
    writeOrb d v s = votraxWrite d v (s.modDev d (Device.withOrb v)) := by
  unfold writeOrb
  rw [((speechDataMode_iff _).mp h).1, portVal_all_outputs]
  exact if_pos h

theorem writeOrb_of_control {s : State} {d : DevIx} (h : ¬(s.dev d).speechDataMode = true) (v : Byte) :
    writeOrb d v s =
      psgDecode d (portVal s.params v (s.dev d).ddrb)
        (s.modDev d (Device.withOrb (portVal s.params v (s.dev d).ddrb))) :=
  if_neg h

/-- Settles O25: a store, a flag clear and a dispatch (44_votrax.md R202). -/
theorem portBWriteInSpeechDataMode : Obligations.PortBWriteInSpeechDataMode := by
  intro s d v hs hddrb hpcr
  have completes := exec_of_performs (i := .wOrb d v) (f := writeOrb d v) hs rfl
  rw [writeOrb_of_speechData ((speechDataMode_iff _).mpr ⟨hddrb, hpcr⟩)] at completes
  have flags := FlagsBecome.modDev_clearFlags s d (Device.withOrb v) (periphMask s.params) (fun _ => rfl)
  rw [and_not_and_causes] at flags
  refine ⟨_, completes, flags.congr fun _ => rfl, ⟨?_, rfl, rfl, rfl⟩, ⟨rfl, rfl⟩, ⟨rfl, rfl⟩, rfl,
    ⟨rfl, rfl, rfl, rfl⟩, rfl⟩
  rw [State.outputs_returns, votraxWrite, play_outputs, clearFlags_outputs, State.outputs_modDev]
  rfl

/-! ## The selected chips (R161 to R167) -/

/-- One chip's function where the control word selects the chip (R161). -/
def psgFuncIf (sel : Bool) (d : DevIx) (k : ChipIx) (cw : Byte) (s : State) : State :=
  if sel then psgFunc d k cw s else s

theorem psgDecode_eq_chips (d : DevIx) (cw : Byte) (s : State) :
    psgDecode d cw s =
      psgFuncIf ((chipSelect s.blk.nativeMode cw).getLsbD 1) d 1 cw
        (psgFuncIf ((chipSelect s.blk.nativeMode cw).getLsbD 0) d 0 cw s) := rfl

/-- The event of one chip's function, if it has one (R164, R166). -/
def chipEvents (d : DevIx) (cw : Byte) (reg : BitVec 4) (v : Byte) (k : ChipIx) : List Event :=
  if cw.toNat % 8 < 4 then [.soundGeneratorReset (psgIndex d k)]
  else if cw.toNat % 8 = 6 then [.soundGeneratorWrite (psgIndex d k) reg v]
  else []

section
variable (sel : Bool) (d : DevIx) (k : ChipIx) (cw : Byte) (s : State)

theorem psgFuncIf_psgReg (k' : ChipIx) (r : BitVec 4) :
    ((psgFuncIf sel d k cw s).dev d).psgReg k' r =
      if (k' = k ∧ sel = true) ∧ cw.toNat % 8 < 4 then 0#8
      else if (k' = k ∧ sel = true) ∧ cw.toNat % 8 = 6 ∧ r = (s.dev d).curReg then (s.dev d).ora
      else (s.dev d).psgReg k' r := by
  cases sel with
  | false => simp [psgFuncIf]
  | true => simp [psgFuncIf, psgFunc_psgReg]

theorem psgFuncIf_curReg :
    ((psgFuncIf sel d k cw s).dev d).curReg =
      if cw.toNat % 8 = 7 ∧ sel = true then latchedReg (s.dev d) else (s.dev d).curReg := by
  cases sel with
  | false => simp [psgFuncIf]
  | true => simp [psgFuncIf, psgFunc_curReg]

theorem psgFuncIf_ora : ((psgFuncIf sel d k cw s).dev d).ora = (s.dev d).ora := by
  cases sel with
  | false => rfl
  | true => exact psgFunc_ora d k cw s

theorem psgFuncIf_outputs :
    (psgFuncIf sel d k cw s).outputs =
      s.outputs ++ if sel then chipEvents d cw (s.dev d).curReg (s.dev d).ora k else [] := by
  cases sel with
  | false => exact (List.append_nil _).symm
  | true => exact psgFunc_outputs d k cw s

end

/-- A latch that is latched again does not change (R167). -/
theorem latchedReg_of_latched {x y : Device} (hora : y.ora = x.ora) (hreg : y.curReg = latchedReg x) :
    latchedReg y = latchedReg x := by
  unfold latchedReg at hreg ⊢
  rw [hora, hreg]
  split <;> rfl

section
variable (sel₀ sel₁ : Bool) (d : DevIx) (cw : Byte) (s : State)

/-- The latched index after both chips had their turn (R167). -/
theorem bothChips_curReg :
    ((psgFuncIf sel₁ d 1 cw (psgFuncIf sel₀ d 0 cw s)).dev d).curReg =
      if cw.toNat % 8 = 7 ∧ (sel₀ || sel₁) = true then latchedReg (s.dev d) else (s.dev d).curReg := by
  have first := psgFuncIf_curReg sel₀ d 0 cw s
  rw [psgFuncIf_curReg]
  by_cases h : cw.toNat % 8 = 7
  · cases sel₀ with
    | false => simp [psgFuncIf, h]
    | true =>
      rw [if_pos ⟨h, rfl⟩] at first
      rw [latchedReg_of_latched (psgFuncIf_ora _ _ _ _ _) first, first]
      simp [h]
  · simpa [h] using first

/-- Before a write (R166) no chip's function changes the latched index. -/
theorem psgFuncIf_curReg_of_not_latch (k : ChipIx) (h : cw.toNat % 8 ≠ 7) :
    ((psgFuncIf sel₀ d k cw s).dev d).curReg = (s.dev d).curReg := by
  rw [psgFuncIf_curReg]
  exact if_neg fun hh => h hh.1

/-- The shadow registers after both chips had their turn: each chip's are its own function's (R164, R166). -/
theorem bothChips_psgReg (k : ChipIx) (r : BitVec 4) :
    ((psgFuncIf sel₁ d 1 cw (psgFuncIf sel₀ d 0 cw s)).dev d).psgReg k r =
      if (if k = 0 then sel₀ else sel₁) = true ∧ cw.toNat % 8 < 4 then 0#8
      else if (if k = 0 then sel₀ else sel₁) = true ∧ cw.toNat % 8 = 6 ∧ r = (s.dev d).curReg then (s.dev d).ora
      else (s.dev d).psgReg k r := by
  have index (h : cw.toNat % 8 = 6) := psgFuncIf_curReg_of_not_latch sel₀ d cw s 0 (by omega)
  rw [psgFuncIf_psgReg, psgFuncIf_psgReg, psgFuncIf_ora]
  obtain rfl | rfl : k = 0 ∨ k = 1 := by revert k; decide
  · simp
  · by_cases h : cw.toNat % 8 = 6
    · simp [index h]
    · simp [h]

/-- The outputs of both chips: the first before the second (R161). -/
theorem bothChips_outputs :
    (psgFuncIf sel₁ d 1 cw (psgFuncIf sel₀ d 0 cw s)).outputs =
      s.outputs ++ ((if sel₀ then chipEvents d cw (s.dev d).curReg (s.dev d).ora 0 else []) ++
        if sel₁ then chipEvents d cw (s.dev d).curReg (s.dev d).ora 1 else []) := by
  have same : chipEvents d cw ((psgFuncIf sel₀ d 0 cw s).dev d).curReg (s.dev d).ora 1 =
      chipEvents d cw (s.dev d).curReg (s.dev d).ora 1 := by
    unfold chipEvents
    by_cases h : cw.toNat % 8 = 6
    · rw [psgFuncIf_curReg_of_not_latch _ _ _ _ _ (by omega)]
    · simp [h]
  rw [psgFuncIf_outputs, psgFuncIf_outputs, psgFuncIf_ora, same, List.append_assoc]

end

/-- A latch where `p` holds, by the address on port A (R167). -/
theorem latched_if (p : Prop) [Decidable p] (q : Prop) [Decidable q] (x : Device) :
    (if p ∧ q then latchedReg x else x.curReg) =
      if p ∧ q ∧ x.ora.toNat ≤ 15 then x.ora.setWidth 4 else x.curReg := by
  by_cases h : p ∧ q <;> simp [h, latchedReg, ← and_assoc]

/-- A function of the chip, at either of them. -/
theorem selected_eq (selected : ChipIx → Bool) (k : ChipIx) :
    (if k = 0 then selected 0 else selected 1) = selected k := by
  obtain rfl | rfl : k = 0 ∨ k = 1 := by revert k; decide
  · rfl
  · rfl

/-- The two chips of a device, those selected, in order. -/
theorem flatMap_selected {α : Type} (selected : ChipIx → Bool) (f : ChipIx → List α) :
    (([0, 1] : List ChipIx).filter selected).flatMap f =
      (if selected 0 then f 0 else []) ++ if selected 1 then f 1 else [] := by
  cases h₀ : selected 0 <;> cases h₁ : selected 1 <;> simp [h₀, h₁]

/-- Settles O26: a store of the byte, and then the selected chips in order; the frame is the decoder's. -/
theorem portBWriteDrivesSelectedChips : Obligations.PortBWriteDrivesSelectedChips := by
  intro s d v hs hmode cw selected hcw hsel
  have completes := exec_of_performs (i := .wOrb d v) (f := writeOrb d v) hs rfl
  have hpv : portVal s.params v (s.dev d).ddrb = cw := hcw.symm
  rw [writeOrb_of_control (mt (speechDataMode_iff _).mp hmode), hpv] at completes
  have selects (k : ChipIx) : (chipSelect s.blk.nativeMode cw).getLsbD k.val = selected k :=
    (chipSelect_eq _ _ _).trans (hsel k).symm
  have stored : (s.modDev d (Device.withOrb cw)).dev d = (s.dev d).withOrb cw :=
    State.dev_modDev_self _ _ _
  have frame := psgDecode_frame d cw (s.modDev d (Device.withOrb cw))
  have chips : psgDecode d cw (s.modDev d (Device.withOrb cw)) =
      psgFuncIf (selected 1) d 1 cw (psgFuncIf (selected 0) d 0 cw (s.modDev d (Device.withOrb cw))) := by
    rw [← selects 0, ← selects 1]
    exact psgDecode_eq_chips d cw _
  have index := bothChips_curReg (selected 0) (selected 1) d cw (s.modDev d (Device.withOrb cw))
  have registers := bothChips_psgReg (selected 0) (selected 1) d cw (s.modDev d (Device.withOrb cw))
  have outputs := bothChips_outputs (selected 0) (selected 1) d cw (s.modDev d (Device.withOrb cw))
  rw [← chips, stored] at index registers outputs
  refine ⟨_, completes, ?items, fun k r => (registers k r).trans ?registers, outputs.trans ?outputs,
    fun e he => ?others, frame.globals, frame.model, rfl⟩
  case items =>
    have items := frame.items
    rw [stored, index] at items
    refine items.trans ?_
    rw [latched_if]
    rfl
  case registers => rw [selected_eq]; rfl
  case outputs => rw [flatMap_selected]; rfl
  case others => exact (frame.others e he).trans (State.dev_modDev_of_ne _ _ _ _ he)

/-! ## The functions run alone (log entry 9) -/

/-- Settles O46: the meaning of both is the identity (R165). -/
theorem inactiveAndReadFunctionsDoNothing : Obligations.InactiveAndReadFunctionsDoNothing := by
  intro s d k hs
  refine ⟨?inactive, ?read⟩
  case inactive => exact ⟨_, exec_of_performs (f := psgNothing) hs rfl, NothingBut.returns s none⟩
  case read => exact ⟨_, exec_of_performs (f := psgNothing) hs rfl, NothingBut.returns s none⟩

/-- Settles O47: in the decoder the latch changes the index of its device, in speech-data mode nothing (R160, R167). -/
theorem latchFunctionIgnoresLargeAddresses : Obligations.LatchFunctionIgnoresLargeAddresses := by
  intro s d k hs
  have completes := exec_of_performs (i := .psgLatch d k) (f := inDecoder d (psgLatchReg d)) hs rfl
  simp only [← speechDataMode_iff]
  obtain ⟨hm, hf⟩ | ⟨hm, hf⟩ := inDecoder_cases d (psgLatchReg d) s
  · have frame := psgLatchReg_frame d s
    rw [hf] at completes
    refine ⟨_, completes, ?_, frame.others, frame.globals, frame.model, psgLatchReg_outputs d s, rfl⟩
    refine (psgLatchReg_dev d d s).trans ?_
    simp [hm, latchedReg]
  · rw [hf] at completes
    refine ⟨_, completes, ?_, (PsgFrame.refl d s).others, (PsgFrame.refl d s).globals, (PsgFrame.refl d s).model, rfl,
      rfl⟩
    simp [hm]

/-- A function run alone acts on a chip that is reached, of a device in the decoder (10_state.md R26; log entry 9). -/
theorem inDecoder_onReachedChip (d : DevIx) (k : ChipIx) (f : State → State) (s : State) :
    inDecoder d (onReachedChip k f) s =
      if (s.blk.phasorEnable && s.blk.phasorMode || k == 0) && !((s.dev d).ddrb == 0xFF#8 && (s.dev d).pcr == 0xB0#8)
      then f s else s := by
  have first : (k == 0) = (k.val == 0) := by revert k; decide
  rw [first]
  show (if (s.dev d).speechDataMode then s else if chipReached s.blk.nativeMode k then f s else s) =
    if chipReached s.blk.nativeMode k && !(s.dev d).speechDataMode then f s else s
  cases (s.dev d).speechDataMode <;> cases chipReached s.blk.nativeMode k <;> rfl

/-- Settles O48: each is its chip's function where the chip is reached, and else the identity (R164, R166). -/
theorem resetAndWriteFunctionsReachOneChip : Obligations.ResetAndWriteFunctionsReachOneChip := by
  intro s d k lo hs reached hreached
  have resets := exec_of_performs (i := .psgReset lo d k) (f := inDecoder d (onReachedChip k (psgResetChip d k))) hs rfl
  have writes := exec_of_performs (i := .psgWrite d k) (f := inDecoder d (onReachedChip k (psgWriteChip d k))) hs rfl
  rw [inDecoder_onReachedChip, ← hreached] at resets writes
  have refl := PsgFrame.refl d s
  cases reached with
  | false =>
    exact ⟨⟨_, resets, rfl, fun _ _ => (if_neg fun h => nomatch h.1).symm, (List.append_nil _).symm, refl.others,
        refl.globals, refl.model, rfl⟩,
      ⟨_, writes, rfl, fun _ _ => (if_neg fun h => nomatch h.1).symm, (List.append_nil _).symm, refl.others,
        refl.globals, refl.model, rfl⟩⟩
  | true =>
    have reset := psgResetChip_frame d k s
    have write := psgWriteChip_frame d k s
    have resetDev : (psgResetChip d k s).dev d = (s.dev d).resetChip k := (psgResetChip_dev d d k s).trans (if_pos rfl)
    have writeDev : (psgWriteChip d k s).dev d = (s.dev d).setPsgReg k (s.dev d).curReg (s.dev d).ora :=
      (psgWriteChip_dev d d k s).trans (if_pos rfl)
    refine ⟨⟨_, resets, ?resetItems, fun k' r => ?resetRegs, psgResetChip_outputs d k s, reset.others, reset.globals,
        reset.model, rfl⟩,
      ⟨_, writes, ?writeItems, fun k' r => ?writeRegs, psgWriteChip_outputs d k s, write.others, write.globals,
        write.model, rfl⟩⟩
    case resetItems =>
      show (psgResetChip d k s).dev d = { s.dev d with psg := ((psgResetChip d k s).dev d).psg }
      rw [resetDev]
      rfl
    case resetRegs =>
      show ((psgResetChip d k s).dev d).psgReg k' r = _
      rw [resetDev, Device.psgReg_resetChip]
      simp
    case writeItems =>
      show (psgWriteChip d k s).dev d = { s.dev d with psg := ((psgWriteChip d k s).dev d).psg }
      rw [writeDev]
      rfl
    case writeRegs =>
      show ((psgWriteChip d k s).dev d).psgReg k' r = _
      rw [writeDev, Device.psgReg_setPsgReg]
      simp

end Sys2Proof.Machine
end

section
/-! The card window in the classic layout and the four ranges by themselves (30_encoding.md R70). -/

namespace Sys2Proof.Machine

/-! ## An access that has its target -/

theorem readsAlike {i j : Instr} {s : State} {f : State → State × Byte} (hs : s.attached = true)
    (hi : exec i s = answers f s) (hj : exec j s = answers f s) : ∃ t, exec i s = .next t ∧ exec j s = .next t :=
  ⟨_, hi.trans (answers_of_attached hs f), hj.trans (answers_of_attached hs f)⟩

theorem writesAlike {i j : Instr} {s : State} {f : State → State} (hs : s.attached = true)
    (hi : exec i s = performs f s) (hj : exec j s = performs f s) : ∃ t, exec i s = .next t ∧ exec j s = .next t :=
  ⟨_, hi.trans (performs_of_attached hs f), hj.trans (performs_of_attached hs f)⟩

/-- The speech access of a register index in range, beside an operation that does the same (30_encoding.md R62). -/
theorem speechReadsAlike {j : Instr} {s : State} {d : DevIx} {r : BitVec 4} (hr : r.toNat ≤ 4) (hs : s.attached = true)
    (hj : exec j s = answers (spRead d ⟨r.toNat, by omega⟩) s) :
    ∃ i t, speechReadInstr r d = some i ∧ exec j s = .next t ∧ exec i s = .next t := by
  obtain ⟨i, hi, hx⟩ := speechReadInstr_of_le hr d
  obtain ⟨t, ht, ht'⟩ := readsAlike hs hj (hx s)
  exact ⟨i, t, hi, ht, ht'⟩

theorem speechWritesAlike {j : Instr} {s : State} {d : DevIx} {r : BitVec 4} {v : Byte} (hr : r.toNat ≤ 4)
    (hs : s.attached = true) (hj : exec j s = performs (spWrite d ⟨r.toNat, by omega⟩ v) s) :
    ∃ i t, speechWriteInstr r d v = some i ∧ exec j s = .next t ∧ exec i s = .next t := by
  obtain ⟨i, hi, hx⟩ := speechWriteInstr_of_le hr d v
  obtain ⟨t, ht, ht'⟩ := writesAlike hs hj (hx s)
  exact ⟨i, t, hi, ht, ht'⟩

/-- Settles O51: each range is the access of its target (log entries 9 and 10). -/
theorem windowRangesReachTheirRegisters : Obligations.WindowRangesReachTheirRegisters := by
  intro s c r₄ r₂ v a b hs ha hb
  obtain rfl : a = cardA c := Fin.ext ha
  obtain rfl : b = cardB c := Fin.ext hb
  have low : (r₂.setWidth 4).toNat = r₂.toNat := by
    rw [BitVec.toNat_setWidth]
    omega
  have index : (⟨(r₂.setWidth 4).toNat, by omega⟩ : Fin 5) = ⟨r₂.toNat, by omega⟩ := Fin.ext low
  refine ⟨readsAlike hs rfl (exec_piaReadInstr _ _ _), writesAlike hs rfl (exec_piaWriteInstr _ _ _ _),
    readsAlike hs rfl (exec_piaReadInstr _ _ _), writesAlike hs rfl (exec_piaWriteInstr _ _ _ _),
    speechReadsAlike (by omega) hs ?read, speechWritesAlike (by omega) hs ?write, readsAlike hs rfl rfl,
    writesAlike hs rfl rfl⟩
  case read => rw [index]; rfl
  case write => rw [index]; rfl

/-! ## The classic layout -/

/-- The low four bits of an offset in the speech range are the register's index (30_encoding.md R70). -/
theorem speechIndex {off : Byte} (h : 0x40 ≤ off.toNat ∧ off.toNat ≤ 0x44) :
    (off.setWidth 4).toNat = off.toNat - 0x40 := by
  rw [BitVec.toNat_setWidth]
  omega

section
variable {s : State} {c off : Byte} (hs : s.attached = true) (hn : s.blk.nativeMode = false) (hc : c.toNat ≤ 1)
include hs hn

theorem exec_busr_of_target {tgt : Target} (ht : windowTarget ⟨c.toNat, by omega⟩ off = some tgt) :
    exec (.busr c off) s = answers (readTarget tgt) s := by
  refine (execBusr_of_card hs hc).trans ?_
  rw [hn, ht]
  rfl

theorem exec_busw_of_target {tgt : Target} (v : Byte) (ht : windowTarget ⟨c.toNat, by omega⟩ off = some tgt) :
    exec (.busw c off v) s = performs (writeTarget v tgt) s := by
  refine (execBusw_of_card hs hc).trans ?_
  rw [hn, ht]
  rfl

theorem exec_busr_of_no_target (ht : windowTarget ⟨c.toNat, by omega⟩ off = none) :
    exec (.busr c off) s = .refused .offsetInNoRange := by
  refine (execBusr_of_card hs hc).trans ?_
  rw [hn, ht]
  rfl

theorem exec_busw_of_no_target (v : Byte) (ht : windowTarget ⟨c.toNat, by omega⟩ off = none) :
    exec (.busw c off v) s = .refused .offsetInNoRange := by
  refine (execBusw_of_card hs hc).trans ?_
  rw [hn, ht]
  rfl

end

/-- Settles O49: by the target of the offset in the classic decode. -/
theorem classicWindowIsTheRegisterAccess : Obligations.ClassicWindowIsTheRegisterAccess := by
  intro s c off v a b hs hn hc ha hb
  obtain rfl : a = cardA ⟨c.toNat, Nat.lt_succ_of_le hc⟩ := Fin.ext ha
  obtain rfl : b = cardB ⟨c.toNat, Nat.lt_succ_of_le hc⟩ := Fin.ext hb
  refine ⟨fun h => ?piaA, fun h => ?speech, fun h => ?piaB, fun h₁ h₂ h₃ => ?none⟩
  case piaA =>
    have ht := windowTarget_piaA ⟨c.toNat, by omega⟩ h
    exact ⟨readsAlike hs (exec_busr_of_target hs hn hc ht) (exec_piaReadInstr _ _ _),
      writesAlike hs (exec_busw_of_target hs hn hc v ht) (exec_piaWriteInstr _ _ _ _)⟩
  case speech =>
    have ht := windowTarget_speech ⟨c.toNat, by omega⟩ h
    simp only [← speechIndex h] at ht
    have hr : (off.setWidth 4).toNat ≤ 4 := by rw [speechIndex h]; omega
    exact ⟨speechReadsAlike hr hs (exec_busr_of_target hs hn hc ht),
      speechWritesAlike hr hs (exec_busw_of_target hs hn hc v ht)⟩
  case piaB =>
    have ht := windowTarget_piaB ⟨c.toNat, by omega⟩ h
    exact ⟨readsAlike hs (exec_busr_of_target hs hn hc ht) (exec_piaReadInstr _ _ _),
      writesAlike hs (exec_busw_of_target hs hn hc v ht) (exec_piaWriteInstr _ _ _ _)⟩
  case none =>
    have ht := windowTarget_none ⟨c.toNat, by omega⟩ h₁ h₂ h₃
    exact ⟨exec_busr_of_no_target hs hn hc ht, exec_busw_of_no_target hs hn hc v ht⟩

end Sys2Proof.Machine
end

section
/-! The card window in Phasor native mode (30_encoding.md R71): the accesses one after another. No register access looks
at what the operation before it returned. -/

namespace Sys2Proof.Machine

/-! ## What the operation before returned is not looked at -/

/-- The part does what it does whatever was returned before it. -/
def IgnoresResult (F : State → State) : Prop := ∀ s r, F (s.returns r) = (F s).returns r

/-- Two branches under one condition. -/
theorem ite_returns {c : Prop} [Decidable c] {A B A' B' : State} {r : Option Result} (hA : A' = A.returns r)
    (hB : B' = B.returns r) : (if c then A' else B') = (if c then A else B).returns r := by
  split
  · exact hA
  · exact hB

theorem IgnoresResult.comp {F G : State → State} (hF : IgnoresResult F) (hG : IgnoresResult G) :
    IgnoresResult fun s => F (G s) := fun s r => (congrArg F (hG s r)).trans (hF (G s) r)

theorem ignoresResult_arm (d : DevIx) : IgnoresResult (arm d) := fun _ _ => ite_returns rfl rfl

theorem ignoresResult_stop (d : DevIx) : IgnoresResult (stop d) := fun _ _ => ite_returns rfl rfl

theorem ignoresResult_writeIer (d : DevIx) (v : Byte) : IgnoresResult (writeIer d v) := fun s r => by
  cases hv : v.getLsbD 7 with
  | true =>
    rw [writeIer_of_set hv, writeIer_of_set hv]
    exact ignoresResult_arm d (changeEnables d v s) r
  | false =>
    rw [writeIer_of_clear hv, writeIer_of_clear hv]
    exact ite_returns rfl (ignoresResult_stop d (changeEnables d v s) r)

theorem ignoresResult_psgFunc (d : DevIx) (k : ChipIx) (cw : Byte) : IgnoresResult (psgFunc d k cw) := fun s r => by
  unfold psgFunc
  split
  exacts [rfl, rfl, rfl, rfl, ite_returns rfl rfl]

theorem ignoresResult_psgFuncIf (sel : Bool) (d : DevIx) (k : ChipIx) (cw : Byte) :
    IgnoresResult (psgFuncIf sel d k cw) := fun s r => ite_returns (ignoresResult_psgFunc d k cw s r) rfl

theorem ignoresResult_psgDecode (d : DevIx) (cw : Byte) : IgnoresResult (psgDecode d cw) := fun s r => by
  rw [psgDecode_eq_chips, psgDecode_eq_chips]
  exact (ignoresResult_psgFuncIf _ d 1 cw).comp (ignoresResult_psgFuncIf _ d 0 cw) s r

theorem ignoresResult_writeOrb (d : DevIx) (v : Byte) : IgnoresResult (writeOrb d v) := fun s r =>
  ite_returns rfl (ignoresResult_psgDecode d _ (s.modDev d (Device.withOrb _)) r)

/-- The registers in the order of their indices (30_encoding.md R61). -/
theorem ignoresResult_regWrite (d : DevIx) (r : BitVec 4) (v : Byte) : IgnoresResult (regWrite d r v) := by
  obtain ⟨⟨r, hr⟩⟩ := r
  interval_cases r
  · exact ignoresResult_writeOrb d v
  iterate 4 exact fun _ _ => rfl
  · exact fun s q => ignoresResult_arm d (clearFlags d (bitMask t1Bit)
      (s.modDev d fun x => { x with t1l := withHigh x.t1l v, t1c := withHigh x.t1l v })) q
  iterate 8 exact fun _ _ => rfl
  · exact ignoresResult_writeIer d v
  · exact fun _ _ => rfl

theorem ignoresResult_writeDurPhon (d : DevIx) (v : Byte) : IgnoresResult (writeDurPhon d v) := fun s r => by
  cases he : s.blk.phasorEnable with
  | false => rw [writeDurPhon_disabled he, writeDurPhon_disabled (s := s.returns r) he]; rfl
  | true =>
    rw [writeDurPhon_enabled he, writeDurPhon_enabled (s := s.returns r) he]
    exact ite_returns rfl rfl

/-- The registers in the order of their indices (30_encoding.md R62). -/
theorem ignoresResult_spWrite (d : DevIx) (r : Fin 5) (v : Byte) : IgnoresResult (spWrite d r v) := by
  match r with
  | 0 => exact ignoresResult_writeDurPhon d v
  | 1 | 2 | 4 => exact fun _ _ => rfl
  | 3 =>
    exact fun s q => (writeCtrl_eq d v (s.returns q)).trans (congrArg (State.returns · q) (writeCtrl_eq d v s).symm)

/-- A read looks at its device alone, and leaves what was returned before as it is. -/
theorem regRead_returns (d : DevIx) (r : BitVec 4) (s : State) (q : Option Result) :
    regRead d r (s.returns q) = ((regRead d r s).1.returns q, (regRead d r s).2) := by
  obtain ⟨⟨r, hr⟩⟩ := r
  interval_cases r <;> rfl

/-! ## The block stays attached -/

theorem attached_keptByEdits (b : Bool) : KeptByEdits fun s => s.attached = b where
  edits d :=
    { store := fun _ _ _ hs => hs
      clearFlags := fun _ _ hs => hs
      arm := fun s hs => (arm_attached d s).trans hs
      writeIer := fun _ s hs => KeptByRegEdits.writeIer_of hs (fun s hs => (arm_attached d s).trans hs)
        (fun s hs => (stop_attached d s).trans hs)
      play := fun _ _ _ hs => hs
      setSpeechLine := fun _ _ hs => hs
      clearPin := fun _ hs => hs
      setPin := fun _ hs => hs
      storeDurPhon := fun _ _ hs => hs
      setPeriph := fun _ hs => hs
      slotEmptied := fun _ _ h hs => h.attached.trans hs }
  writeCtrl d v s hs := by
    rw [writeCtrl_eq]
    exact hs
  psg _ _ _ h hs := by
    obtain ⟨ha, -⟩ := h.model
    exact ha.trans hs

/-! ## Writes one after another -/

theorem runWrites_cons {i : Instr} {s t : State} (h : exec i s = .next t) (is : List Instr) :
    runWrites (i :: is) s = runWrites is t := by
  simp only [runWrites, h]

/-- The operations run one after another are the change `F` of the state. -/
structure RunsAs (is : List Instr) (F : State → State) : Prop where
  run : ∀ s, s.attached = true → runWrites is s = .next ((F s).returns none)
  ignores : IgnoresResult F

theorem RunsAs.nil : RunsAs [] id := ⟨fun _ _ => rfl, fun _ _ => rfl⟩

/-- A write that takes part in an access if `sel` is set, before the rest. -/
theorem RunsAs.consIf {is : List Instr} {F : State → State} (h : RunsAs is F) {i : Instr} {f : State → State}
    (sel : Bool) (hi : ∀ s, exec i s = performs f s) (hf : IgnoresResult f)
    (ha : ∀ s, s.attached = true → (f s).attached = true) :
    RunsAs ((if sel then [i] else []) ++ is) fun s => F (writeIf sel f s) := by
  cases sel with
  | false => exact h
  | true =>
    refine ⟨fun s hs => ?_, h.ignores.comp hf⟩
    have first : exec i s = .next ((f s).returns none) := (hi s).trans (performs_of_attached hs f)
    refine ((runWrites_cons first is).trans (h.run ((f s).returns none) (ha s hs))).trans ?_
    rw [h.ignores]
    rfl

theorem RunsAs.piaIf {is : List Instr} {F : State → State} (h : RunsAs is F) (sel : Bool) (r : BitVec 4) (d : DevIx)
    (v : Byte) :
    RunsAs ((if sel then [piaWriteInstr r d v] else []) ++ is) fun s => F (writeIf sel (regWrite d r v) s) :=
  h.consIf sel (exec_piaWriteInstr r d v) (ignoresResult_regWrite d r v) fun _ =>
    (attached_keptByEdits true).regWrite d r v

/-- The write of a speech register where the offset is in the speech range. -/
def speechWriteAt (off : Byte) (d : DevIx) (v : Byte) (s : State) : State :=
  match speechRegAt off with
  | some r => spWrite d r v s
  | none => s

theorem RunsAs.speechAt (off : Byte) (d : DevIx) (v : Byte) :
    RunsAs (if 0x40 ≤ off.toNat ∧ off.toNat ≤ 0x44 then (speechWriteInstr (off.setWidth 4) d v).toList else [])
      (speechWriteAt off d v) := by
  unfold speechWriteAt
  split
  next h =>
    have hr : (off.setWidth 4).toNat ≤ 4 := by rw [speechIndex h]; omega
    obtain ⟨i, hi, hx⟩ := speechWriteInstr_of_le hr d v
    simp only [speechRegAt_of_mem h, ← speechIndex h, hi]
    exact RunsAs.nil.consIf true hx (ignoresResult_spWrite d _ v) fun _ => (attached_keptByEdits true).spWrite d _ v
  next h =>
    rw [speechRegAt_of_not_mem h]
    exact RunsAs.nil

/-- A native write is the writes of the selected devices and of the speech register, in order (R71; log entry 17). -/
theorem nativeWrite_runsAs (selA selB : Bool) (c : CardIx) (off v : Byte) :
    RunsAs
      ((if selA then [piaWriteInstr (off.setWidth 4) (cardA c) v] else []) ++
        ((if selB then [piaWriteInstr (off.setWidth 4) (cardB c) v] else []) ++
          (if 0x40 ≤ off.toNat ∧ off.toNat ≤ 0x44 then (speechWriteInstr (off.setWidth 4) (cardB c) v).toList else [])))
      (nativeWrite selA selB c off v) := by
  have runs := ((RunsAs.speechAt off (cardB c) v).piaIf selB (off.setWidth 4) (cardB c) v).piaIf selA (off.setWidth 4)
    (cardA c) v
  convert runs using 1
  funext s
  unfold nativeWrite speechWriteAt
  cases speechRegAt off <;> rfl

/-! ## Reads one after another -/

/-- The read leaves what was returned before it as it is, and does not look at it. -/
def ReadIgnoresResult (f : State → State × Byte) : Prop := ∀ s q, f (s.returns q) = ((f s).1.returns q, (f s).2)

/-- The operations run one after another are the read `F`, from a byte so far. -/
structure ReadsAs (is : List Instr) (F : State × Byte → State × Byte) : Prop where
  run : ∀ s b, s.attached = true → runReads is b s = .next ((F (s, b)).1.returns (some (.byte (F (s, b)).2)))
  ignores : ∀ s b q, F (s.returns q, b) = ((F (s, b)).1.returns q, (F (s, b)).2)

theorem ReadsAs.nil : ReadsAs [] id := ⟨fun _ _ _ => rfl, fun _ _ _ => rfl⟩

theorem runReads_cons {i : Instr} {s t : State} {b : Byte} (h : exec i s = .next t) (ht : t.result = some (.byte b))
    (is : List Instr) (r : Byte) : runReads (i :: is) r s = runReads is (r ||| b) t := by
  simp only [runReads, h, ht]

/-- A read that takes part in an access if `sel` is set, before the rest. -/
theorem ReadsAs.consIf {is : List Instr} {F : State × Byte → State × Byte} (h : ReadsAs is F) {i : Instr}
    {f : State → State × Byte} (sel : Bool) (hi : ∀ s, exec i s = answers f s) (hf : ReadIgnoresResult f)
    (ha : ∀ s, s.attached = true → (f s).1.attached = true) :
    ReadsAs ((if sel then [i] else []) ++ is) fun p => F (readIf sel f p) := by
  cases sel with
  | false => exact h
  | true =>
    refine ⟨fun s b hs => ?_, fun s b q => ?_⟩
    · have first : exec i s = .next ((f s).1.returns (some (.byte (f s).2))) :=
        (hi s).trans (answers_of_attached hs f)
      refine ((runReads_cons first rfl is b).trans (h.run ((f s).1.returns _) _ (ha s hs))).trans ?_
      rw [h.ignores]
      rfl
    · show F ((f (s.returns q)).1, b ||| (f (s.returns q)).2) = _
      rw [hf, h.ignores]
      rfl

theorem ReadsAs.piaIf {is : List Instr} {F : State × Byte → State × Byte} (h : ReadsAs is F) (sel : Bool)
    (r : BitVec 4) (d : DevIx) :
    ReadsAs ((if sel then [piaReadInstr r d] else []) ++ is) fun p => F (readIf sel (regRead d r) p) :=
  h.consIf sel (exec_piaReadInstr r d) (regRead_returns d r) fun _ => (attached_keptByEdits true).regRead d r

/-- The read of a speech register where the offset is in the speech range. -/
def speechReadAt (off : Byte) (d : DevIx) (p : State × Byte) : State × Byte :=
  match speechRegAt off with
  | some r => readIf true (spRead d r) p
  | none => p

theorem ReadsAs.speechAt (off : Byte) (d : DevIx) :
    ReadsAs (if 0x40 ≤ off.toNat ∧ off.toNat ≤ 0x44 then (speechReadInstr (off.setWidth 4) d).toList else [])
      (speechReadAt off d) := by
  unfold speechReadAt
  split
  next h =>
    have hr : (off.setWidth 4).toNat ≤ 4 := by rw [speechIndex h]; omega
    obtain ⟨i, hi, hx⟩ := speechReadInstr_of_le hr d
    simp only [speechRegAt_of_mem h, ← speechIndex h, hi]
    exact ReadsAs.nil.consIf true hx (fun _ _ => rfl) fun _ hs => hs
  next h =>
    rw [speechRegAt_of_not_mem h]
    exact ReadsAs.nil

/-- A native read is the reads of the selected devices and of the speech register, in order (R71; log entry 17). -/
theorem nativeRead_readsAs (selA selB : Bool) (c : CardIx) (off : Byte) :
    ∃ F, (∀ s, nativeRead selA selB c off s = F (s, 0#8)) ∧
      ReadsAs
        ((if selA then [piaReadInstr (off.setWidth 4) (cardA c)] else []) ++
          ((if selB then [piaReadInstr (off.setWidth 4) (cardB c)] else []) ++
            (if 0x40 ≤ off.toNat ∧ off.toNat ≤ 0x44 then (speechReadInstr (off.setWidth 4) (cardB c)).toList else [])))
        F := by
  have runs := ((ReadsAs.speechAt off (cardB c)).piaIf selB (off.setWidth 4) (cardB c)).piaIf selA (off.setWidth 4)
    (cardA c)
  refine ⟨_, fun s => ?_, runs⟩
  unfold nativeRead speechReadAt
  cases speechRegAt off <;> rfl

/-! ## The native layout -/

/-- Settles O50: both layouts of an access run the same accesses in the same order (R71; log entry 17). -/
theorem nativeWindowReachesSelectedDevices : Obligations.NativeWindowReachesSelectedDevices := by
  intro s c off v a b hs hn hc ha hb
  obtain rfl : a = cardA ⟨c.toNat, Nat.lt_succ_of_le hc⟩ := Fin.ext ha
  obtain rfl : b = cardB ⟨c.toNat, Nat.lt_succ_of_le hc⟩ := Fin.ext hb
  change s.blk.nativeMode = true at hn
  rw [List.append_assoc, List.append_assoc]
  refine ⟨?write, ?read⟩
  case write =>
    refine ⟨_, ?_, (nativeWrite_runsAs (selectsA off) (selectsB off) _ off v).run s hs⟩
    exact (execBusw_of_card hs hc).trans ((if_pos hn).trans (performs_of_attached hs _))
  case read =>
    obtain ⟨F, hF, reads⟩ := nativeRead_readsAs (selectsA off) (selectsB off) ⟨c.toNat, Nat.lt_succ_of_le hc⟩ off
    refine ⟨_, ?_, reads.run s 0#8 hs⟩
    rw [← hF]
    exact (execBusr_of_card hs hc).trans ((if_pos hn).trans (answers_of_attached hs _))

end Sys2Proof.Machine
end
